-- ==== Sys2Proof/Word.lean ====
section
/-! DEFINITION. The units of data of the block: bytes and the 16-bit CRC register's word (00_scope.md R10, R11). -/

namespace Sys2Proof

/-- One byte, 8 bits, unsigned (00_scope.md R10). Every transfer of the block is in whole bytes (20_memory.md R35). -/
abbrev Byte := BitVec 8

/-- The 16-bit word of the CRC_A register (00_scope.md R6 `CRC_WIDTH`, 10_state.md R14). -/
abbrev CrcWord := BitVec 16

/-- A finite sequence of bytes, index 0 first (00_scope.md R11). -/
abbrev Bytes := List Byte

/-- The low byte `v[7:0]` of a 16-bit value (00_scope.md R10). -/
def lowByte (v : CrcWord) : Byte := v.truncate 8

/-- The high byte `v[15:8]` of a 16-bit value (00_scope.md R10). -/
def highByte (v : CrcWord) : Byte := (v >>> 8).truncate 8

end Sys2Proof
end

