-- ==== Sys2Proof/Config.lean ====
section
/-! DEFINITION. What an implementation fixes: the constants of 00_scope.md R6, the decided parameters of R7, the
parameters R7 leaves open, and the draws of the environment (20_memory.md R37, 93_implementation_defined.md U4, U5). -/

namespace Sys2Proof

/-- A read timeout: "a non-negative duration; width and unit not given by the source" (10_state.md R18). The unit is
open, so a finite duration is a count of an unnamed unit. `unbounded` is the timeout without bound of
93_implementation_defined.md U6. (notes/assumptions/12.md) -/
inductive Duration where
  | finite (ticks : Nat)
  | unbounded
  deriving DecidableEq, Repr, Inhabited

/-- The duration itself where it is not `d`, else another one: every duration but `d` is one of its values, and `d` is
not. -/
def Duration.apartFrom (t d : Duration) : Duration :=
  if t = d then
    match d with
    | .finite n => .finite (n + 1)
    | .unbounded => .finite 0
  else t

/-- What the environment (device, channel, time, reset input) does between one access of the block to the channel
and the next: one draw is taken by each `Flush` and each `RxRead`. The block knows none of it (00_scope.md R8).
(notes/assumptions/5.md) -/
structure ChanDraw where
  /-- how many of the bytes that wait in the channel's TX buffer the channel delivers to the device (20_memory.md R38, R47) -/
  sent : Nat
  /-- the bytes that arrive from the device, appended at the back of RX (10_state.md R28) -/
  arrived : Bytes
  /-- how many bytes a read returns when fewer than it asked for are in the queue (20_memory.md R37) -/
  count : Nat
  /-- whether the device is now waiting for the host's ACK (10_state.md R30 (b), 45_host_boundary.md R123) -/
  waits : Bool
  /-- whether the reset input is asserted at this access, that is, at the flush or while the read waits
  (70_reset_and_hazards.md R157) -/
  reset : Bool
  deriving DecidableEq, Repr, Inhabited

namespace Config

/-! ### Constants the source fixes (00_scope.md R6) -/

/-- `CRC_INIT` -/
def crcInit : CrcWord := 0x6363
/-- `PRE`, "3-byte preamble/start-code" -/
def preamble : Bytes := [0x00, 0x00, 0xFF]
/-- `HOST_MARKER` -/
def hostMarker : Byte := 0xD4
/-- `DEVICE_MARKER` -/
def deviceMarker : Byte := 0xD5
/-- `POST` -/
def postamble : Byte := 0x00
/-- `ACK`, the six bytes of both directions (42_frame_build.md R87, 30_encoding.md R58) -/
def ack : Bytes := [0x00, 0x00, 0xFF, 0x00, 0xFF, 0x00]
/-- `ACK_LEN` -/
abbrev ackLen : Nat := 6
/-- `HEAD_LEN` -/
abbrev headLen : Nat := 6
/-- `BAUD`; no rule of the model depends on it (70_reset_and_hazards.md section 4) -/
def baud : Nat := 115200

/-! ### Parameters the spec decides (00_scope.md R7) -/

/-- `MAX_PAYLOAD` (92_eei_decisions.md D4) -/
abbrev maxPayload : Nat := 254
/-- `FLUSH_BEFORE_SEND` (92_eei_decisions.md D7) -/
def flushBeforeSend : Bool := true
/-- The most bytes the command port carries in `DIN`, `DLEN` being 16 bits wide (30_encoding.md R53). -/
abbrev maxDin : Nat := 65535

/-! ### Open parameters (00_scope.md R7): no body, so that no proof can see a value -/

/-- `INSTANCE_ID`, carried on every log record, read by nothing (92_eei_decisions.md D27). -/
opaque instanceId : Nat
/-- `DEFAULT_TIMEOUT_GENERAL`, the host's default of the general call path (92_eei_decisions.md D8). -/
opaque defaultTimeoutGeneral : Duration
/-- What the host would take for its default of the raw path, before it is kept apart from the other default. -/
opaque rawTimeoutDraw : Duration
/-- `DEFAULT_TIMEOUT_RAW`, the host's default of the raw data-exchange path (92_eei_decisions.md D8): any duration but the
other default, since "they differ from each other" (00_scope.md R7). -/
def defaultTimeoutRaw : Duration := rawTimeoutDraw.apartFrom defaultTimeoutGeneral

/-- The environment's draw number `n`, where the state's own script of draws has ended: a FREE VALUE
(93_implementation_defined.md U4, U5; notes/assumptions/5.md). -/
opaque chanDraw : Nat → ChanDraw

end Config

end Sys2Proof
end

