-- ==== Sys2Proof/Machine/Codec.lean ====
section
/-! DEFINITION. The pure functions of the Checksum Codec and the Frame Codec: the CRC_A fold (40_crc_a.md), the two link
checksums (41_link_checksum.md) and the frame layout (30_encoding.md R55 to R58, 42_frame_build.md). -/

namespace Sys2Proof.Machine

/-- `crc_step(c, x)` (40_crc_a.md R67). The shift amounts 4, 8, 3, 4 are the spec's general knowledge
(93_implementation_defined.md G1; notes/assumptions/13.md). -/
def crcStep (c : CrcWord) (x : Byte) : CrcWord :=
  let b : Byte := x ^^^ lowByte c
  let b : Byte := b ^^^ (b <<< 4)
  (c >>> 8) ^^^ (b.setWidth 16 <<< 8) ^^^ (b.setWidth 16 <<< 3) ^^^ (b.setWidth 16 >>> 4)

/-- One shift of the bit-serial form of the step, for bit `i` of the input byte (40_crc_a.md R68). -/
def crcShift (x : Byte) (c : CrcWord) (i : Nat) : CrcWord :=
  if (x.getLsbD i ^^ c.getLsbD 0) then (c >>> 1) ^^^ 0x8408 else c >>> 1

/-- The bit-serial form of the step, the bits of the byte taken from bit 0 to bit 7 (40_crc_a.md R68). The machine uses
the byte-wise `crcStep`, which is the normative form. -/
def crcStepSerial (c : CrcWord) (x : Byte) : CrcWord := (List.range 8).foldl (crcShift x) c

/-- The fold of 40_crc_a.md R69 continued over `d` from the register value `c` (R72 (c)). -/
def crcFold (c : CrcWord) (d : Bytes) : CrcWord := d.foldl crcStep c

/-- A register value delivered low byte first (20_memory.md R41). -/
def crcBytes (c : CrcWord) : Bytes := [lowByte c, highByte c]

/-- `crc_a(d)` (40_crc_a.md R69). -/
def crcA (d : Bytes) : Bytes := crcBytes (crcFold Config.crcInit d)

/-- `with_crc_a(d)` (40_crc_a.md R71). -/
def withCrcA (d : Bytes) : Bytes := d ++ crcA d

/-- `sum(s)`, the sum of the bytes as a natural number (00_scope.md R11). -/
def sumBytes (p : Bytes) : Nat := (p.map BitVec.toNat).sum

/-- `lcs(L)` (41_link_checksum.md R75). -/
def lcs (l : Byte) : Byte := BitVec.ofNat 8 ((256 - l.toNat) % 256)

/-- `dcs(M, p)` (41_link_checksum.md R76). -/
def dcs (m : Byte) (p : Bytes) : Byte :=
  BitVec.ofNat 8 ((256 - (m.toNat + sumBytes p) % 256) % 256)

/-- `lcs_ok(L, C)` (41_link_checksum.md R77). -/
def lcsOk (l c : Byte) : Bool := (l.toNat + c.toNat) % 256 == 0

/-- `dcs_ok(M, p, C)` (41_link_checksum.md R78). -/
def dcsOk (m : Byte) (p : Bytes) (c : Byte) : Bool :=
  (m.toNat + sumBytes p + c.toNat) % 256 == 0

/-- The running sum modulo 256 of a marker and a payload in the accumulator `sum` (41_link_checksum.md R82). -/
def accumulate (m : Byte) (p : Bytes) : Byte := p.foldl (fun acc x => acc + x) m

/-- The information frame of marker `m` and payload `p` (30_encoding.md R55). -/
def infoFrame (m : Byte) (p : Bytes) : Bytes :=
  let len : Byte := BitVec.ofNat 8 (p.length + 1)
  Config.preamble ++ [len, lcs len, m] ++ p ++ [dcs m p, Config.postamble]

/-- `build_frame(c, a)` (42_frame_build.md R83), the host-to-device frame of 30_encoding.md R56. -/
def buildFrame (c : Byte) (a : Bytes) : Bytes := infoFrame Config.hostMarker (c :: a)

/-- The device-to-host frame of payload `p` (30_encoding.md R57). The block never builds one; the device sends it. -/
def deviceFrame (p : Bytes) : Bytes := infoFrame Config.deviceMarker p

end Sys2Proof.Machine
end

