-- ==== Sys2Proof/Syntax.lean ====
section
/-! DEFINITION. The syntax: one constructor of `Instr` for each row of spec/opcode_table.json, and the two places
an instruction is fetched from, the command port and the serial line (30_encoding.md R51 to R58). -/

namespace Sys2Proof

/-- The direction of a transfer on the serial line (10_state.md R28: TX and RX). -/
inductive Direction where
  | toDevice
  | toHost
  deriving DecidableEq, Repr

/-- The instructions: the seven operations of 30_encoding.md R52, the nine reserved select codes of R54, and the
three wire forms of R56 to R58 (events of the serial line, not operations: notes/assumptions/3.md). -/
inductive Instr where
  /-- `CRC_A` (40_crc_a.md R70): the data `d` -/
  | crcA (din : Bytes)
  /-- `WITH_CRC_A` (40_crc_a.md R71): the data `d` -/
  | withCrcA (din : Bytes)
  /-- `LCS` (41_link_checksum.md R79): `CMD` read as the length byte -/
  | lcs (len : Byte)
  /-- `DCS` (41_link_checksum.md R80): `CMD` read as the marker, `DIN` as the payload -/
  | dcs (marker : Byte) (payload : Bytes)
  /-- `BUILD_FRAME` (42_frame_build.md R84): the command byte and the argument bytes -/
  | buildFrame (cmd : Byte) (args : Bytes)
  /-- `PARSE_FRAME` (43_frame_parse.md R101): no operand -/
  | parseFrame
  /-- `TRANSACT` (44_link_transaction.md R104): the command byte, the argument bytes, the call's timeout -/
  | transact (cmd : Byte) (args : Bytes) (tmo : Duration)
  /-- reserved select code 0x7 (30_encoding.md R54); its operands are ignored, as those of the eight after it -/
  | reserved7
  | reserved8
  | reserved9
  | reservedA
  | reservedB
  | reservedC
  | reservedD
  | reservedE
  | reservedF
  /-- `FRAME_HOST_TO_DEVICE` (30_encoding.md R56): the line carries this frame to the device -/
  | frameHostToDevice (cmd : Byte) (args : Bytes)
  /-- `FRAME_DEVICE_TO_HOST` (30_encoding.md R57): the line brings this frame from the device -/
  | frameDeviceToHost (payload : Bytes)
  /-- `FRAME_ACK` (30_encoding.md R58): the line carries the six ACK bytes, "the same in both directions" -/
  | frameAck (dir : Direction)
  deriving DecidableEq, Repr

/-- What stands on the command port for one operation (10_state.md R22): the operation select, the command byte, the
data (`DLEN` is its length) and the timeout. "There is one format, `OP` plus whichever operands the operation uses;
unused operands are ignored" (30_encoding.md R51). -/
structure PortWord where
  op : BitVec 4
  cmd : Byte
  din : Bytes
  tmo : Duration
  deriving DecidableEq, Repr

/-- An instruction as it is presented to the machine, before decoding: a request at the command port, or bytes that
travel on the serial line. -/
inductive Fetched where
  | port (w : PortWord)
  | line (dir : Direction) (bytes : Bytes)
  deriving DecidableEq, Repr

/-- Whether an instruction is one of the seven operations of 30_encoding.md R52, whose operands are sampled into the
latches when it starts (10_state.md R22). A reserved code names no operation (R54). -/
def Instr.isOperation : Instr → Bool
  | .crcA _ => true
  | .withCrcA _ => true
  | .lcs _ => true
  | .dcs _ _ => true
  | .buildFrame _ _ => true
  | .parseFrame => true
  | .transact _ _ _ => true
  | .reserved7 => false
  | .reserved8 => false
  | .reserved9 => false
  | .reservedA => false
  | .reservedB => false
  | .reservedC => false
  | .reservedD => false
  | .reservedE => false
  | .reservedF => false
  | .frameHostToDevice _ _ => false
  | .frameDeviceToHost _ => false
  | .frameAck _ => false

/-- The instruction that a reserved select code stands for, if it is one (30_encoding.md R54). -/
def Instr.isReserved : Instr → Bool
  | .reserved7 => true
  | .reserved8 => true
  | .reserved9 => true
  | .reservedA => true
  | .reservedB => true
  | .reservedC => true
  | .reservedD => true
  | .reservedE => true
  | .reservedF => true
  | .crcA _ => false
  | .withCrcA _ => false
  | .lcs _ => false
  | .dcs _ _ => false
  | .buildFrame _ _ => false
  | .parseFrame => false
  | .transact _ _ _ => false
  | .frameHostToDevice _ _ => false
  | .frameDeviceToHost _ => false
  | .frameAck _ => false

end Sys2Proof
end

