-- ==== Sys2Proof/WellFormed.lean ====
section
/-! DEFINITION. Which instructions have an encoding: the operand ranges of 30_encoding.md R53 and R61. -/

namespace Sys2Proof

/-- The operand ranges. `DIN` is at most 65535 bytes on the port (30_encoding.md R53); a payload that BUILD_FRAME or
TRANSACT cannot frame is well formed and fails when it runs (42_frame_build.md R85). A frame on the line has a payload
that its one `LEN` byte can count: 1 to 254 bytes from host to device, 0 to 254 from device to host (30_encoding.md
R56, R57, R61). -/
def Instr.wellFormed : Instr → Bool
  | .crcA d => decide (d.length ≤ Config.maxDin)
  | .withCrcA d => decide (d.length ≤ Config.maxDin)
  | .lcs _ => true
  | .dcs _ p => decide (p.length ≤ Config.maxDin)
  | .buildFrame _ a => decide (a.length ≤ Config.maxDin)
  | .parseFrame => true
  | .transact _ a _ => decide (a.length ≤ Config.maxDin)
  | .reserved7 => true
  | .reserved8 => true
  | .reserved9 => true
  | .reservedA => true
  | .reservedB => true
  | .reservedC => true
  | .reservedD => true
  | .reservedE => true
  | .reservedF => true
  | .frameHostToDevice _ a => decide (a.length + 1 ≤ Config.maxPayload)
  | .frameDeviceToHost p => decide (p.length ≤ Config.maxPayload)
  | .frameAck _ => true

end Sys2Proof
end

