-- ==== Sys2Proof/Decode.lean ====
section
/-! DEFINITION. The decoder, total on what stands on the command port and on any bytes of the line, rejecting by name;
the encoder after it; and the reading of a word as spec/opcode_table.json numbers its bits. -/

namespace Sys2Proof

open Sys2Proof.Machine (lcsOk dcsOk buildFrame deviceFrame)

/-- Why something presented is no instruction. None of these is a failure of the block: bytes on the line that are
no wire form still travel as bytes (30_encoding.md R62, R63). -/
inductive Reject where
  /-- more than 65535 bytes of `DIN`, which the port cannot carry (30_encoding.md R53) -/
  | dinTooLong
  /-- fewer bytes than the six of a head (30_encoding.md R55) -/
  | wireTooShort
  /-- bytes 0 to 2 are not `00 00 FF` -/
  | wirePreamble
  /-- `(LEN + LCS) mod 256` is not 0 -/
  | wireLengthChecksum
  /-- byte 5 is not the marker of this direction -/
  | wireMarker
  /-- `LEN` is 0, or the bytes after the head are not `LEN + 1` -/
  | wireLength
  /-- the data checksum does not hold -/
  | wireDataChecksum
  /-- the last byte is not 0x00 -/
  | wirePostamble
  /-- a host-to-device frame with no command byte (30_encoding.md R56: `n >= 1`) -/
  | wireNoCommand
  deriving DecidableEq, Repr

/-- The operation a request at the command port selects (30_encoding.md R52, R54). -/
def selectOp (w : PortWord) : Instr :=
  match w.op.toNat with
  | 0 => .crcA w.din
  | 1 => .withCrcA w.din
  | 2 => .lcs w.cmd
  | 3 => .dcs w.cmd w.din
  | 4 => .buildFrame w.cmd w.din
  | 5 => .parseFrame
  | 6 => .transact w.cmd w.din w.tmo
  | 7 => .reserved7
  | 8 => .reserved8
  | 9 => .reserved9
  | 10 => .reservedA
  | 11 => .reservedB
  | 12 => .reservedC
  | 13 => .reservedD
  | 14 => .reservedE
  | _ => .reservedF

/-- The request at the command port. The port carries at most 65535 bytes of `DIN`, whatever the operation (30_encoding.md
R53). -/
def decodePort (w : PortWord) : Except Reject Instr :=
  if w.din.length ≤ Config.maxDin then .ok (selectOp w) else .error .dinTooLong

/-- The payload of an information frame with marker `marker`, the whole of `bytes` being that frame (30_encoding.md
R55, R60). -/
def decodeInfo (marker : Byte) (bytes : Bytes) : Except Reject Bytes :=
  match bytes with
  | b0 :: b1 :: b2 :: len :: c :: m :: rest =>
    if [b0, b1, b2] ≠ Config.preamble then .error .wirePreamble
    else if lcsOk len c = false then .error .wireLengthChecksum
    else if m ≠ marker then .error .wireMarker
    else if len = 0 ∨ rest.length ≠ len.toNat + 1 then .error .wireLength
    else if dcsOk m (rest.take (len.toNat - 1)) (rest.getD (len.toNat - 1) 0) = false then
      .error .wireDataChecksum
    else if rest.getD len.toNat 0 ≠ Config.postamble then .error .wirePostamble
    else .ok (rest.take (len.toNat - 1))
  | _ => .error .wireTooShort

/-- The wire form that bytes on the line are (30_encoding.md R55 to R58, R62: these three forms and no other). The ACK
is recognised by comparing all six bytes (R58); the marker belongs to the direction. -/
def decodeLine (dir : Direction) (bytes : Bytes) : Except Reject Instr :=
  if bytes = Config.ack then .ok (.frameAck dir)
  else match dir with
    | .toDevice =>
      match decodeInfo Config.hostMarker bytes with
      | .ok (c :: a) => .ok (.frameHostToDevice c a)
      | .ok [] => .error .wireNoCommand
      | .error r => .error r
    | .toHost =>
      match decodeInfo Config.deviceMarker bytes with
      | .ok p => .ok (.frameDeviceToHost p)
      | .error r => .error r

/-- The decoder. -/
def decode : Fetched → Except Reject Instr
  | .port w => decodePort w
  | .line dir bytes => decodeLine dir bytes

/-- A request with select code `op`; an operand the operation does not use is written as zero or empty (it is ignored,
30_encoding.md R51; notes/assumptions/2.md). -/
def portWord (op : BitVec 4) (cmd : Byte) (din : Bytes) (tmo : Duration) : Fetched :=
  .port { op := op, cmd := cmd, din := din, tmo := tmo }

/-- The encoder, from the tables of 30_encoding.md R52 and R55 to R58. -/
def encode : Instr → Fetched
  | .crcA d => portWord 0x0 0 d (.finite 0)
  | .withCrcA d => portWord 0x1 0 d (.finite 0)
  | .lcs l => portWord 0x2 l [] (.finite 0)
  | .dcs m p => portWord 0x3 m p (.finite 0)
  | .buildFrame c a => portWord 0x4 c a (.finite 0)
  | .parseFrame => portWord 0x5 0 [] (.finite 0)
  | .transact c a t => portWord 0x6 c a t
  | .reserved7 => portWord 0x7 0 [] (.finite 0)
  | .reserved8 => portWord 0x8 0 [] (.finite 0)
  | .reserved9 => portWord 0x9 0 [] (.finite 0)
  | .reservedA => portWord 0xA 0 [] (.finite 0)
  | .reservedB => portWord 0xB 0 [] (.finite 0)
  | .reservedC => portWord 0xC 0 [] (.finite 0)
  | .reservedD => portWord 0xD 0 [] (.finite 0)
  | .reservedE => portWord 0xE 0 [] (.finite 0)
  | .reservedF => portWord 0xF 0 [] (.finite 0)
  | .frameHostToDevice c a => .line .toDevice (buildFrame c a)
  | .frameDeviceToHost p => .line .toHost (deviceFrame p)
  | .frameAck dir => .line dir Config.ack

/-- Byte `k` of a word whose bit 0 is the least significant bit of its first byte. -/
def wordByte (w k : Nat) : Byte := BitVec.ofNat 8 (w >>> (8 * k))

/-- How many bytes the wire form that begins a word has: an ACK has six, an information frame `LEN + 7`
(30_encoding.md R60). -/
def wordWireLength (w : Nat) : Nat :=
  if wordByte w 3 = 0 then 6 else (wordByte w 3).toNat + 7

/-- The word of a table row as it is presented. A row of at most one byte is a request at the command port: `OP` is bits
3..0 and the operand latches, to which the table gives no bits, are zero and empty. A longer row is a wire form, its
first byte in bits 7..0; byte 5 tells its direction (0xD4 is the host's marker; an ACK is read as the device's). -/
def tableFetch (nbits w : Nat) : Fetched :=
  if nbits ≤ 8 then portWord (BitVec.ofNat 4 w) 0 [] (.finite 0)
  else
    .line (if wordByte w 5 = Config.hostMarker then .toDevice else .toHost)
      ((List.range (wordWireLength w)).map (wordByte w))

/-- The instruction the decoder reads from a word of a table row. -/
def decodeTableWord (nbits w : Nat) : Option Instr :=
  match decode (tableFetch nbits w) with
  | .ok i => some i
  | .error _ => none

end Sys2Proof
end

