-- ==== Sys2Proof/Machine/State.lean ====
section
/-! DEFINITION. The state of the block and of the serial channel it works on, as plain data (10_state.md), the reasons a
step can stop, and the machine right after reset (10_state.md R32, 70_reset_and_hazards.md R157). -/

namespace Sys2Proof.Machine

/-- `lstate`, the link state of a call (10_state.md R17). -/
inductive LinkState where
  | idle
  | frameSent
  | ackAwaited
  | ackVerified
  | responseAwaited
  | responseParsed
  deriving DecidableEq, Repr

/-- The reason of a `Fail` result (10_state.md R21). -/
inductive Reason where
  | parseError
  | protocolViolation
  | unsupportedOperation
  | operandRange
  deriving DecidableEq, Repr

/-- How an operation ended: exactly one of three kinds (60_exceptions.md R134). -/
inductive Ending where
  | ok (bytes : Bytes)
  | noResponse
  | fail (reason : Reason)
  deriving DecidableEq, Repr

/-- `RESULT` (10_state.md R21): the ending, and the copy of `ANOM` taken when the operation ended. -/
structure Result where
  ending : Ending
  anom : BitVec 6
  deriving DecidableEq, Repr

/-- The log events (10_state.md R29): one for each anomaly flag and one for each fatal outcome. -/
inductive LogEvent where
  | ackMismatch
  | preambleMismatch
  | lengthChecksumMismatch
  | markerMismatch
  | dataChecksumMismatch
  | postambleMismatch
  | parseError
  | operandRange
  | unsupportedOperation
  | protocolViolation
  deriving DecidableEq, Repr

/-- One event of the block's history: an access to the channel (00_scope.md R9, 20_memory.md R46), or an arrow of the
link state machine (44_link_transaction.md R106), which the host cannot see. -/
inductive Event where
  /-- `Flush()` -/
  | flush
  /-- `TxWrite(bytes)` -/
  | tx (bytes : Bytes)
  /-- `RxRead(asked)`, which returned `got` -/
  | rx (asked : Nat) (got : Bytes)
  /-- `lstate <- target` -/
  | link (target : LinkState)
  deriving DecidableEq, Repr

/-- What the outside presents to the machine, one at a time and in order (00_scope.md R8, 45_host_boundary.md R118). -/
inductive Input where
  /-- a request at the command port, or bytes that travel on the line while no operation runs -/
  | present (f : Fetched)
  /-- the host sets the configuration input `STRICT` (10_state.md R19, 70_reset_and_hazards.md R158) -/
  | strict (on : Bool)
  /-- the reset input (70_reset_and_hazards.md R156) -/
  | reset
  deriving DecidableEq, Repr

/-- The state. The first group is the block's own (10_state.md R13), the second the environment's that the block's rules
read or write (R28 to R30), the third the model's. -/
structure State where
  /-- `crc`, the CRC register (R14) -/
  crc : CrcWord
  /-- `sum`, the checksum accumulator (R15) -/
  sum : Byte
  /-- `lstate`, the link state (R17) -/
  lstate : LinkState
  /-- `TIMEOUT`, under which every read runs (R18) -/
  timeout : Duration
  /-- `STRICT`, the strictness bit (R19) -/
  strict : Bool
  /-- `ANOM`, the six anomaly flags (R20) -/
  anom : BitVec 6
  /-- `RESULT` (R21) -/
  result : Result
  /-- whether an operation has ended since reset, that is, whether `RESULT` holds a result (R21, R32) -/
  resultValid : Bool
  /-- the operand latches `OP`, `CMD`, `DIN` with `DLEN`, `TMO` (R22) -/
  latches : PortWord
  /-- `TXBUF`; `TXLEN` is its length (R23) -/
  txbuf : Bytes
  /-- `HEAD`; `HEADLEN` is its length (R24) -/
  head : Bytes
  /-- `PAY`; `PLEN` is its length (R25) -/
  pay : Bytes
  /-- `TX`, all the bytes the block has written, in order (R28) -/
  tx : Bytes
  /-- the bytes written that the channel has not yet sent (20_memory.md R38) -/
  txUnsent : Bytes
  /-- the bytes the channel has delivered to the device, in order (20_memory.md R47) -/
  txSent : Bytes
  /-- `RX`, the bytes the device has sent and the block has not yet read or flushed (R28) -/
  rx : Bytes
  /-- `LOG` (R29) -/
  log : List LogEvent
  /-- the device's wait state (R30 (b)) -/
  deviceWait : Bool
  /-- MODEL: the history of channel accesses and link arrows since reset (00_scope.md R9) -/
  trace : List Event
  /-- MODEL: what the outside presents next (00_scope.md R8) -/
  inputs : List Input
  /-- MODEL: the environment's next draws; after them `Config.chanDraw` gives the draws (20_memory.md R37) -/
  draws : List ChanDraw
  /-- MODEL: how many draws have been taken -/
  drawCount : Nat
  deriving DecidableEq, Repr

/-- The faults. The block itself has no trap (60_exceptions.md, opening): a failure of an operation is a `RESULT`, and
the step goes on. -/
inductive Fault where
  /-- Raised by PARSE_FRAME and TRANSACT when a read under a timeout without bound asks for more bytes than will ever
  arrive: "the read never returns: stuck" (93_implementation_defined.md U6). Safe: the model stops where the hardware
  stays for ever. (notes/assumptions/12.md) -/
  | readNeverReturns
  deriving DecidableEq, Repr

/-- The refusals: requests to which the spec gives no step. -/
inductive Refusal where
  /-- Raised by an arm of `exec` whose instruction has no meaning yet. Safe. -/
  | notModelled (mnemonic : String)
  /-- Raised by the command port when an operation is presented while `lstate` is not `IDLE` (70_reset_and_hazards.md
  R160, 93_implementation_defined.md U1). Safe. (notes/assumptions/23.md) -/
  | operationInProgress
  /-- Raised by the command port for a `DIN` of more than 65535 bytes, which the port cannot carry (30_encoding.md R53).
  Safe. (notes/assumptions/2.md) -/
  | portCannotCarry
  /-- Raised by a transfer to the device of bytes that are not the next unsent bytes of TX: the channel sends what the
  block wrote, in order, and nothing else (20_memory.md R36, R47). Safe. (notes/assumptions/4.md) -/
  | notOnTheLine
  deriving DecidableEq, Repr

/-- The machine right after reset (10_state.md R32, 70_reset_and_hazards.md R157). The spec gives `lstate`, `STRICT`,
`ANOM`, `crc`, `sum`, the lengths 0 of the buffers, TX and LOG. DESIGN CHOICE (notes/assumptions/9.md): `TIMEOUT`, the
operand latches, the placeholder behind `resultValid = false`, RX, the channel's TX buffers and the device's wait
state, of all of which the spec says "unspecified" or nothing; none of them is read before it is written but RX, to
which the first draw of the environment adds arbitrary bytes. The model's own lists are empty. -/
def State.reset : State where
  crc := 0x6363
  sum := 0
  lstate := .idle
  timeout := .finite 1
  strict := false
  anom := 0
  result := { ending := .noResponse, anom := 0 }
  resultValid := false
  latches := { op := 0xF, cmd := 0xFF, din := [], tmo := .finite 1 }
  txbuf := []
  head := []
  pay := []
  tx := []
  txUnsent := []
  txSent := []
  rx := []
  log := []
  deviceWait := false
  trace := []
  inputs := []
  draws := []
  drawCount := 0

end Sys2Proof.Machine
end

