-- ==== Sys2Proof/Machine/Flags.lean ====
section
/-! DEFINITION. The six anomaly flags of `ANOM` (10_state.md R20), their log events, the numeric codes of a result
(60_exceptions.md R135), and the one operation that records an anomaly (60_exceptions.md R139). -/

namespace Sys2Proof.Machine

/-- The names of the six flags of `ANOM` (10_state.md R20). -/
inductive AnomFlag where
  | ack
  | pre
  | lcs
  | marker
  | dcs
  | post
  deriving DecidableEq, Repr

/-- The bit of a flag in `ANOM` (10_state.md R20, 60_exceptions.md R135). -/
def AnomFlag.index : AnomFlag → Nat
  | .ack => 0
  | .pre => 1
  | .lcs => 2
  | .marker => 3
  | .dcs => 4
  | .post => 5

/-- `ANOM` with that one flag set. -/
def AnomFlag.mask (f : AnomFlag) : BitVec 6 := BitVec.ofNat 6 (2 ^ f.index)

/-- Whether a flag is set in a value of `ANOM`. -/
def anomHas (a : BitVec 6) (f : AnomFlag) : Bool := a.getLsbD f.index

/-- The log event of a flag: "Every setting of a flag also emits one log event" (10_state.md R20, R29). -/
def AnomFlag.logEvent : AnomFlag → LogEvent
  | .ack => .ackMismatch
  | .pre => .preambleMismatch
  | .lcs => .lengthChecksumMismatch
  | .marker => .markerMismatch
  | .dcs => .dataChecksumMismatch
  | .post => .postambleMismatch

/-- The log event of a fatal outcome (10_state.md R29). -/
def Reason.logEvent : Reason → LogEvent
  | .parseError => .parseError
  | .protocolViolation => .protocolViolation
  | .unsupportedOperation => .unsupportedOperation
  | .operandRange => .operandRange

/-- The code of a result's kind (60_exceptions.md R135). -/
def Ending.kindCode : Ending → Nat
  | .ok _ => 0
  | .noResponse => 1
  | .fail _ => 2

/-- The code of a reason (60_exceptions.md R135). -/
def Reason.code : Reason → Nat
  | .parseError => 1
  | .protocolViolation => 2
  | .unsupportedOperation => 3
  | .operandRange => 4

/-- The code of a result's reason: "`reason` is 0 when `kind` is not `Fail`" (60_exceptions.md R135). -/
def Ending.reasonCode : Ending → Nat
  | .ok _ => 0
  | .noResponse => 0
  | .fail r => r.code

/-- `Log(e)`: append an event to LOG; it "always succeeds and has no effect other than the append" (10_state.md R29). -/
def State.logEvent (s : State) (e : LogEvent) : State := { s with log := s.log ++ [e] }

/-- The log records as they leave the block, each "tagged with a driver instance identifier" (10_state.md R29).
DESIGN CHOICE, unsafe for a claim about records: the format is not in the source, and a record is here the pair of tag and
event name, with no further diagnostic records (93_implementation_defined.md U15; notes/assumptions/35.md). -/
def State.logRecords (s : State) : List (Nat × LogEvent) := s.log.map fun e => (Config.instanceId, e)

/-- `ANOM <- 000000`, the start of every PARSE_FRAME and TRANSACT (10_state.md R20). -/
def State.clearAnom (s : State) : State := { s with anom := 0 }

/-- Record an anomaly: set its flag, emit its log event, go on (10_state.md R20, 60_exceptions.md R139). -/
def State.anomaly (s : State) (f : AnomFlag) : State :=
  State.logEvent { s with anom := s.anom ||| f.mask } f.logEvent

/-- A validation that is not fatal: nothing if it holds, the anomaly if not (60_exceptions.md R136). -/
def State.check (s : State) (holds : Bool) (f : AnomFlag) : State :=
  if holds then s else s.anomaly f

end Sys2Proof.Machine
end

