-- ==== Sys2Proof/Machine/Operands.lean ====
section
/-! DEFINITION. The operands of an operation: sampling the command port into the latches (10_state.md R22), and the one
operand check of the block (42_frame_build.md R85). -/

namespace Sys2Proof.Machine

/-- `DLEN`, the length of the latched data (10_state.md R22). -/
def State.dlen (s : State) : Nat := s.latches.din.length

/-- The operands "are sampled once, when the operation starts" (10_state.md R22). A reserved code names no operation, and
"no state other than `RESULT` and `LOG` changes" (30_encoding.md R54), so nothing is sampled for it
(notes/assumptions/24.md). After the operation the latches hold any value (93_implementation_defined.md U3); that they keep
the request sampled last is the model's DESIGN CHOICE, unsafe for a claim about them (notes/assumptions/19.md). -/
def State.sample (s : State) (i : Instr) (w : PortWord) : State :=
  if i.isOperation then { s with latches := w } else s

/-- Whether the payload `[c] ++ a` of an outbound frame is at most `MAX_PAYLOAD` bytes (42_frame_build.md R85). -/
def payloadFits (a : Bytes) : Bool := decide (a.length + 1 ≤ Config.maxPayload)

end Sys2Proof.Machine
end

