-- ==== Sys2Proof/Machine/Ops.lean ====
section
/-! DEFINITION. The shared operations: the registers, the three access primitives of the channel (20_memory.md R36 to
R38), the ways an operation ends (60_exceptions.md R134, R145), reset (70_reset_and_hazards.md R157), and the transfers
on the line while no operation runs (20_memory.md R47). -/

namespace Sys2Proof.Machine

/-! ### Registers and buffers -/

/-- Run the CRC register over a byte sequence, from `CRC_INIT` (40_crc_a.md R69, 10_state.md R14). -/
def State.runCrc (s : State) (d : Bytes) : State := { s with crc := crcFold Config.crcInit d }

/-- Run the accumulator `sum` over a marker and a payload (41_link_checksum.md R82, 10_state.md R15). -/
def State.runSum (s : State) (m : Byte) (p : Bytes) : State := { s with sum := accumulate m p }

/-- `TIMEOUT <- t` (10_state.md R18). -/
def State.setTimeout (s : State) (t : Duration) : State := { s with timeout := t }

/-- `TXBUF <- b` (10_state.md R23). -/
def State.setTxbuf (s : State) (b : Bytes) : State := { s with txbuf := b }

/-- `HEAD <- b` (10_state.md R24). -/
def State.setHead (s : State) (b : Bytes) : State := { s with head := b }

/-- `PAY <- b` (10_state.md R25). -/
def State.setPay (s : State) (b : Bytes) : State := { s with pay := b }

/-- `lstate <- l` (10_state.md R17, 44_link_transaction.md R106). -/
def State.setLink (s : State) (l : LinkState) : State :=
  { s with lstate := l, trace := s.trace ++ [.link l] }

/-- Build the outbound frame of a command and its arguments into TXBUF; the accumulator forms its data checksum
(42_frame_build.md R83, R84, 41_link_checksum.md R82). -/
def State.buildTx (s : State) (c : Byte) (a : Bytes) : State :=
  (s.runSum Config.hostMarker (c :: a)).setTxbuf (buildFrame c a)

/-! ### How an operation ends -/

/-- `RESULT <- e`, with the copy of `ANOM` (10_state.md R21, 60_exceptions.md R134). -/
def State.setResult (s : State) (e : Ending) : State :=
  { s with result := { ending := e, anom := s.anom }, resultValid := true }

/-- A failure: one log event, and `RESULT <- Fail(r)` "with `ANOM` as it stands"; "nothing is saved and nothing is
restored; control does not go anywhere" (60_exceptions.md R145). A call also returns `lstate` to `IDLE`, in between
(44_link_transaction.md R104): `State.failCall`. -/
def State.failWith (s : State) (r : Reason) : State := (s.logEvent r.logEvent).setResult (.fail r)

/-- A failure inside a call (60_exceptions.md R145, 44_link_transaction.md R104). -/
def State.failCall (s : State) (r : Reason) : State :=
  ((s.logEvent r.logEvent).setLink .idle).setResult (.fail r)

/-- The end of an operation that got a payload: strict mode turns it into a failure if any flag is set
(60_exceptions.md R140). -/
def State.deliver (s : State) (p : Bytes) : State :=
  if s.strict && s.anom != 0 then s.failWith .protocolViolation else s.setResult (.ok p)

/-- What the host reads at the result port: nothing until an operation has ended (10_state.md R21, R32,
93_implementation_defined.md U2). -/
def State.readResult (s : State) : Option Result := if s.resultValid then some s.result else none

/-- The reset input (70_reset_and_hazards.md R156, R157): the block's own state, TX and LOG take their values of
10_state.md R32; the channel, the device and what the outside will do are not the block's and stay ("the bytes already
written stay written", "RX whatever the channel holds"). -/
def State.resetBlock (s : State) : State :=
  { State.reset with
    txUnsent := s.txUnsent
    txSent := s.txSent
    rx := s.rx
    deviceWait := s.deviceWait
    inputs := s.inputs
    draws := s.draws
    drawCount := s.drawCount }

/-! ### The channel -/

/-- The environment's next draw: from the state's script, then the free draws (93_implementation_defined.md U4, U5). -/
def State.nextDraw (s : State) : ChanDraw :=
  match s.draws with
  | d :: _ => d
  | [] => Config.chanDraw s.drawCount

/-- The environment acts: the channel sends some of the bytes that wait, in order (20_memory.md R47), bytes arrive at the
back of RX (10_state.md R28), the device may enter or leave its wait state (R30). -/
def State.environment (s : State) : State :=
  { s with
    txUnsent := s.txUnsent.drop s.nextDraw.sent
    txSent := s.txSent ++ s.txUnsent.take s.nextDraw.sent
    rx := s.rx ++ s.nextDraw.arrived
    deviceWait := s.nextDraw.waits
    draws := s.draws.tail
    drawCount := s.drawCount + 1 }

/-- `TxWrite(b)` (20_memory.md R36): append to TX; the channel has still to send the bytes. -/
def State.txWrite (s : State) (b : Bytes) : State :=
  { s with tx := s.tx ++ b, txUnsent := s.txUnsent ++ b, trace := s.trace ++ [.tx b] }

/-- The ACK written back after a response, which also "consumes the device's wait state" (44_link_transaction.md R110,
10_state.md R30). -/
def State.txWriteAck (s : State) : State := { s.txWrite Config.ack with deviceWait := false }

/-- `Flush()` (20_memory.md R38): drop every byte pending in RX, those that arrived up to now among them (R47), and every
byte written that the channel has not yet sent. -/
def State.flush (s : State) : State :=
  { s.environment with rx := [], txUnsent := [], trace := s.trace ++ [.flush] }

/-- What a read does: it returns bytes, or the reset input abandons the operation while it waits, or it never returns. -/
inductive Read where
  | got (r : Bytes) (t : State)
  | abandoned (t : State)
  | hung (t : State)

/-- How many bytes an `RxRead(n)` returns when `queued` bytes are in the queue as it ends (20_memory.md R37): `n` when at
least `n` are there, else what the environment draws, up to all of them. -/
def readCount (n queued drawn : Nat) : Nat := if n ≤ queued then n else min drawn queued

/-- The queue as the next read finds it when it ends: what was pending, then what arrived (10_state.md R28). -/
def State.queued (s : State) : Bytes := s.rx ++ s.nextDraw.arrived

/-- How many bytes the next `RxRead(n)` returns. -/
def State.readLength (s : State) (n : Nat) : Nat := readCount n s.queued.length s.nextDraw.count

/-- Whether the next `RxRead(n)` waits for ever: no bound on the time, and too few bytes (93_implementation_defined.md
U6). -/
def State.neverFills (s : State) (n : Nat) : Bool :=
  s.timeout == .unbounded && decide (s.queued.length < n)

/-- The state after a read that asked for `n` bytes and took the first `k` of the queue. -/
def State.takeRx (s : State) (n k : Nat) : State :=
  { s.environment with rx := s.queued.drop k, trace := s.trace ++ [.rx n (s.queued.take k)] }

/-- The state after a read that the reset input abandoned when the first `k` bytes had left the queue. -/
def State.dropRx (s : State) (k : Nat) : State := { s.environment with rx := s.queued.drop k }

/-- `RxRead(n)` (20_memory.md R37): the first bytes of the queue in arrival order, which leave it. A read that the reset
input abandons may have taken bytes from the queue and returns none (70_reset_and_hazards.md R157). -/
def State.rxRead (s : State) (n : Nat) : Read :=
  if s.nextDraw.reset then .abandoned (s.dropRx (min n s.nextDraw.count))
  else if s.neverFills n then .hung s.environment
  else .got (s.queued.take (s.readLength n)) (s.takeRx n (s.readLength n))

/-- How a reading operation comes to its end: with a state, or in a read that never returns. -/
inductive Ended where
  | done (t : State)
  | hung (t : State)

/-- The state an operation has reached. -/
def Ended.state : Ended → State
  | .done t => t
  | .hung t => t

/-- The outcome of a reading operation whose reads run under `tmo`. Under a finite timeout every read ends
(70_reset_and_hazards.md R165), so the operation completes; without bound it may be stuck in a read
(93_implementation_defined.md U6). -/
def finish (tmo : Duration) (e : Ended) : Host.Outcome State Fault Refusal :=
  match tmo with
  | .finite _ => .next e.state
  | .unbounded =>
    match e with
    | .done t => .next t
    | .hung _ => .fault .readNeverReturns

/-! ### Transfers on the line while no operation runs -/

/-- Bytes arrive from the device at the back of RX; the block does not notice (10_state.md R28, 60_exceptions.md R149). -/
def State.arrive (s : State) (b : Bytes) : State := { s with rx := s.rx ++ b }

/-- The channel delivers `b` to the device, which receives the bytes of TX in the order written (20_memory.md R47): `b`
must be the next bytes that wait to be sent. -/
def State.carry (s : State) (b : Bytes) : Host.Outcome State Fault Refusal :=
  if b.isPrefixOf s.txUnsent then
    .next { s with txUnsent := s.txUnsent.drop b.length, txSent := s.txSent ++ b }
  else .refused .notOnTheLine

/-- Bytes that are no wire form travel on the line as bytes (30_encoding.md R62, R63, 45_host_boundary.md R121). DESIGN
CHOICE, unsafe for a claim about `deviceWait`: bytes from the device that are not exactly one wire form leave the wait state
as it is, also where several transfers together, or the ACK and a frame in one, make a whole response
(notes/assumptions/8.md). -/
def State.lineBytes (s : State) (dir : Direction) (b : Bytes) : Host.Outcome State Fault Refusal :=
  match dir with
  | .toDevice => s.carry b
  | .toHost => .next (s.arrive b)

end Sys2Proof.Machine
end

