-- ==== Sys2Proof/Machine/CrcA.lean ====
section
/-! DEFINITION. The CRC_A family: CRC_A and WITH_CRC_A (40_crc_a.md). -/

namespace Sys2Proof.Machine

/-- `CRC_A` (40_crc_a.md R70): the register runs over the data from 0x6363 and is delivered low byte first. -/
def execCrcA (d : Bytes) (s : State) : Host.Outcome State Fault Refusal :=
  let t := s.runCrc d
  .next (t.setResult (.ok (crcBytes t.crc)))

/-- `WITH_CRC_A` (40_crc_a.md R71): the data unchanged, then its CRC_A. -/
def execWithCrcA (d : Bytes) (s : State) : Host.Outcome State Fault Refusal :=
  let t := s.runCrc d
  .next (t.setResult (.ok (d ++ crcBytes t.crc)))

end Sys2Proof.Machine
end

