-- ==== Sys2Proof/Machine/FrameBuild.lean ====
section
/-! DEFINITION. The frame-construction family: BUILD_FRAME (42_frame_build.md). -/

namespace Sys2Proof.Machine

/-- `BUILD_FRAME` (42_frame_build.md R84, R85). -/
def execBuildFrame (c : Byte) (a : Bytes) (s : State) : Host.Outcome State Fault Refusal :=
  if payloadFits a then
    let t := s.buildTx c a
    .next (t.setResult (.ok t.txbuf))
  else .next (s.failWith .operandRange)

end Sys2Proof.Machine
end

