-- ==== Sys2Proof/Machine/LinkChecksum.lean ====
section
/-! DEFINITION. The link checksum family: LCS and DCS (41_link_checksum.md). -/

namespace Sys2Proof.Machine

/-- `LCS` (41_link_checksum.md R79). -/
def execLcs (l : Byte) (s : State) : Host.Outcome State Fault Refusal :=
  .next (s.setResult (.ok [lcs l]))

/-- `DCS` (41_link_checksum.md R80), formed with the accumulator as R82 says: `DCS = (256 - sum) mod 256`. -/
def execDcs (m : Byte) (p : Bytes) (s : State) : Host.Outcome State Fault Refusal :=
  let t := s.runSum m p
  .next (t.setResult (.ok [lcs t.sum]))

end Sys2Proof.Machine
end

