-- ==== Sys2Proof/Machine/Reserved.lean ====
section
/-! DEFINITION. The reserved select codes 0x7 to 0xF (30_encoding.md R54). -/

namespace Sys2Proof.Machine

/-- "Presenting one ends at once with `Fail(UNSUPPORTED_OPERATION)`: no state other than `RESULT` and `LOG` changes and
neither stream is touched" (30_encoding.md R54, 60_exceptions.md R142). -/
def State.unsupported (s : State) : Host.Outcome State Fault Refusal :=
  .next (s.failWith .unsupportedOperation)

/-- Reserved select code 0x7 (30_encoding.md R54). -/
def execReserved7 (s : State) : Host.Outcome State Fault Refusal := s.unsupported

/-- Reserved select code 0x8 (30_encoding.md R54). -/
def execReserved8 (s : State) : Host.Outcome State Fault Refusal := s.unsupported

/-- Reserved select code 0x9 (30_encoding.md R54). -/
def execReserved9 (s : State) : Host.Outcome State Fault Refusal := s.unsupported

/-- Reserved select code 0xA (30_encoding.md R54). -/
def execReservedA (s : State) : Host.Outcome State Fault Refusal := s.unsupported

/-- Reserved select code 0xB (30_encoding.md R54). -/
def execReservedB (s : State) : Host.Outcome State Fault Refusal := s.unsupported

/-- Reserved select code 0xC (30_encoding.md R54). -/
def execReservedC (s : State) : Host.Outcome State Fault Refusal := s.unsupported

/-- Reserved select code 0xD (30_encoding.md R54). -/
def execReservedD (s : State) : Host.Outcome State Fault Refusal := s.unsupported

/-- Reserved select code 0xE (30_encoding.md R54). -/
def execReservedE (s : State) : Host.Outcome State Fault Refusal := s.unsupported

/-- Reserved select code 0xF (30_encoding.md R54). -/
def execReservedF (s : State) : Host.Outcome State Fault Refusal := s.unsupported

end Sys2Proof.Machine
end

