-- ==== Sys2Proof/Machine/FrameParse.lean ====
section
/-! DEFINITION. The frame-parsing family: the procedures `parse_frame()` and `ack_check()`, and PARSE_FRAME
(43_frame_parse.md). -/

namespace Sys2Proof.Machine

/-- The results of `parse_frame()` (43_frame_parse.md, opening), and the two ways a read ends the operation itself: the
reset input abandons it (70_reset_and_hazards.md R157), or it never returns (93_implementation_defined.md U6). -/
inductive Parse where
  | payload (p : Bytes) (t : State)
  | noResponse (t : State)
  | parseError (t : State)
  | abandoned (t : State)
  | hung (t : State)

/-- The postamble read, and the result of the procedure (43_frame_parse.md R99, R100). -/
def State.parsePostamble (s : State) : Parse :=
  match s.rxRead 1 with
  | .got [] t => .parseError t
  | .got (x :: _) t => .payload t.pay (t.check (x == Config.postamble) .post)
  | .abandoned t => .abandoned t
  | .hung t => .hung t

/-- A body of `LEN` bytes that was read whole: the payload, and the data-checksum test with the marker as received
(43_frame_parse.md R97, R98). The accumulator holds the sum of marker and payload (41_link_checksum.md R82). -/
def State.takeBody (s : State) (len m : Byte) (body : Bytes) : State :=
  let p := body.take (len.toNat - 1)
  let d := body.getD (len.toNat - 1) 0
  let t := (s.setPay p).runSum m p
  t.check (t.sum + d == 0) .dcs

/-- The marker test and the body read, for a `LEN` other than 0 (43_frame_parse.md R96, R97). -/
def State.parseBody (s : State) (len m : Byte) : Parse :=
  match (s.check (m == Config.deviceMarker) .marker).rxRead len.toNat with
  | .got body t =>
    if body.length < len.toNat then .parseError t else (t.takeBody len m body).parsePostamble
  | .abandoned t => .abandoned t
  | .hung t => .hung t

/-- The preamble and length-checksum tests of a whole head, and the way on by `LEN` as received (43_frame_parse.md R92 to
R95). -/
def State.parseHead (s : State) (b0 b1 b2 len c m : Byte) : Parse :=
  let t := (s.check ([b0, b1, b2] == Config.preamble) .pre).check (lcsOk len c) .lcs
  if len = 0 then (t.setPay []).parsePostamble else t.parseBody len m

/-- `parse_frame()` (43_frame_parse.md R100): the head read, and its three cases (R89 to R91). -/
def State.parseFrame (s : State) : Parse :=
  match s.rxRead Config.headLen with
  | .got [] t => .noResponse (t.setHead [])
  | .got [b0, b1, b2, len, c, m] t =>
    (t.setHead [b0, b1, b2, len, c, m]).parseHead b0 b1 b2 len c m
  | .got h t => .parseError (t.setHead h)
  | .abandoned t => .abandoned t
  | .hung t => .hung t

/-- `ack_check()` (43_frame_parse.md R102): the bytes read are compared and are gone. -/
def State.ackCheck (s : State) : Read :=
  match s.rxRead Config.ackLen with
  | .got a t => .got a (t.check (a == Config.ack) .ack)
  | .abandoned t => .abandoned t
  | .hung t => .hung t

/-- The course of PARSE_FRAME (43_frame_parse.md R101). -/
def State.runParse (s : State) : Ended :=
  match s.clearAnom.parseFrame with
  | .payload p t => .done (t.deliver p)
  | .noResponse t => .done (t.setResult .noResponse)
  | .parseError t => .done (t.failWith .parseError)
  | .abandoned t => .done t.resetBlock
  | .hung t => .hung t

/-- `PARSE_FRAME` (43_frame_parse.md R101), under the value `TIMEOUT` currently holds. -/
def execParseFrame (s : State) : Host.Outcome State Fault Refusal := finish s.timeout s.runParse

end Sys2Proof.Machine
end

