-- ==== Sys2Proof/Machine/Transact.lean ====
section
/-! DEFINITION. The link transaction: TRANSACT (44_link_transaction.md). -/

namespace Sys2Proof.Machine

/-- The opening of a call (44_link_transaction.md R104, R107): the flags and the timeout of this call, the flush. -/
def State.openCall (s : State) (tmo : Duration) : State :=
  let t := s.clearAnom.setTimeout tmo
  if Config.flushBeforeSend then t.flush else t

/-- Step 1 after the flush (44_link_transaction.md R104, R107): the outbound frame is built and written whole. -/
def State.sendFrame (s : State) (c : Byte) (a : Bytes) : State :=
  let t := s.buildTx c a
  (t.txWrite t.txbuf).setLink .frameSent

/-- After the reads of steps 3 and 4 (44_link_transaction.md R104, R110, R111): the ACK is written back exactly when a
payload was parsed; every ending leaves `lstate = IDLE`. -/
def Parse.endCall : Parse → Ended
  | .payload p t => .done (((t.txWriteAck.setLink .responseParsed).setLink .idle).deliver p)
  | .noResponse t => .done ((t.setLink .idle).setResult .noResponse)
  | .parseError t => .done (t.failCall .parseError)
  | .abandoned t => .done t.resetBlock
  | .hung t => .hung t

/-- Whether the reset input is asserted at the flush, before the frame is written (70_reset_and_hazards.md R157). -/
def State.resetAtFlush (s : State) : Bool := Config.flushBeforeSend && s.nextDraw.reset

/-- The course of a call (44_link_transaction.md R104), the arrows of `lstate` as R106 places them. -/
def State.runTransact (s : State) (c : Byte) (a : Bytes) (tmo : Duration) : Ended :=
  if s.resetAtFlush then .done (s.openCall tmo).resetBlock
  else
    match (((s.openCall tmo).sendFrame c a).setLink .ackAwaited).ackCheck with
    | .got _ t => ((t.setLink .ackVerified).setLink .responseAwaited).parseFrame.endCall
    | .abandoned t => .done t.resetBlock
    | .hung t => .hung t

/-- `TRANSACT` (44_link_transaction.md R104, R105). -/
def execTransact (c : Byte) (a : Bytes) (tmo : Duration) (s : State) :
    Host.Outcome State Fault Refusal :=
  if payloadFits a then finish tmo (s.runTransact c a tmo)
  else .next (s.failWith .operandRange)

end Sys2Proof.Machine
end

