-- ==== Sys2Proof/Machine/Wire.lean ====
section
/-! DEFINITION. The three wire forms as transfers on the serial line (30_encoding.md R56 to R58, 20_memory.md R47). They
are steps of the channel and the device, not of the block: no operation of the block is one of them, and TX is written
by TRANSACT alone (notes/assumptions/3.md). -/

namespace Sys2Proof.Machine

/-- `FRAME_HOST_TO_DEVICE` (30_encoding.md R56): the channel delivers this frame, which the block wrote, to the device. -/
def execFrameHostToDevice (c : Byte) (a : Bytes) (s : State) : Host.Outcome State Fault Refusal :=
  s.carry (buildFrame c a)

/-- `FRAME_DEVICE_TO_HOST` (30_encoding.md R57): the device sends this frame, whose bytes wait in RX, and then waits for
the host's ACK (45_host_boundary.md R123). -/
def execFrameDeviceToHost (p : Bytes) (s : State) : Host.Outcome State Fault Refusal :=
  .next { s.arrive (deviceFrame p) with deviceWait := true }

/-- `FRAME_ACK` (30_encoding.md R58): the six bytes, in either direction. -/
def execFrameAck (dir : Direction) (s : State) : Host.Outcome State Fault Refusal :=
  s.lineBytes dir Config.ack

end Sys2Proof.Machine
end

