-- ==== Sys2Proof/Machine/Dispatch.lean ====
section
/-! DEFINITION. The meaning of every instruction of spec/opcode_table.json, one direct call an arm. -/

namespace Sys2Proof.Machine

/-- The meaning of an instruction. -/
def exec (i : Instr) (s : State) : Host.Outcome State Fault Refusal :=
  match i with
  | .crcA d => Sys2Proof.Machine.execCrcA d s
  | .withCrcA d => Sys2Proof.Machine.execWithCrcA d s
  | .lcs l => Sys2Proof.Machine.execLcs l s
  | .dcs m p => Sys2Proof.Machine.execDcs m p s
  | .buildFrame c a => Sys2Proof.Machine.execBuildFrame c a s
  | .parseFrame => Sys2Proof.Machine.execParseFrame s
  | .transact c a tmo => Sys2Proof.Machine.execTransact c a tmo s
  | .reserved7 => Sys2Proof.Machine.execReserved7 s
  | .reserved8 => Sys2Proof.Machine.execReserved8 s
  | .reserved9 => Sys2Proof.Machine.execReserved9 s
  | .reservedA => Sys2Proof.Machine.execReservedA s
  | .reservedB => Sys2Proof.Machine.execReservedB s
  | .reservedC => Sys2Proof.Machine.execReservedC s
  | .reservedD => Sys2Proof.Machine.execReservedD s
  | .reservedE => Sys2Proof.Machine.execReservedE s
  | .reservedF => Sys2Proof.Machine.execReservedF s
  | .frameHostToDevice c a => Sys2Proof.Machine.execFrameHostToDevice c a s
  | .frameDeviceToHost p => Sys2Proof.Machine.execFrameDeviceToHost p s
  | .frameAck dir => Sys2Proof.Machine.execFrameAck dir s

end Sys2Proof.Machine
end

