-- ==== Sys2Proof/Machine/Present.lean ====
section
/-! DEFINITION. What the machine does with each thing the outside presents: a request at the command port, bytes on the
line, the configuration input, the reset input (00_scope.md R8, 70_reset_and_hazards.md R156, R160). -/

namespace Sys2Proof.Machine

/-- A request at the command port: accepted "only when `lstate = IDLE`" (70_reset_and_hazards.md R160), decoded, its
operands sampled, and run. -/
def State.request (s : State) (w : PortWord) : Host.Outcome State Fault Refusal :=
  if s.lstate = .idle then
    match decode (.port w) with
    | .ok i => exec i (s.sample i w)
    | .error _ => .refused .portCannotCarry
  else .refused .operationInProgress

/-- Bytes on the line while no operation runs: a wire form (30_encoding.md R62), or plain bytes (R63). -/
def State.transfer (s : State) (dir : Direction) (b : Bytes) : Host.Outcome State Fault Refusal :=
  match decode (.line dir b) with
  | .ok i => exec i s
  | .error _ => s.lineBytes dir b

/-- One input. -/
def State.handle (s : State) (x : Input) : Host.Outcome State Fault Refusal :=
  match x with
  | .present (.port w) => s.request w
  | .present (.line dir b) => s.transfer dir b
  | .strict on => .next { s with strict := on }
  | .reset => .next s.resetBlock

/-- The next input is taken, then handled; with none, the block waits at its command port and nothing changes
(60_exceptions.md R149: "Bytes that arrive while the block is idle are not noticed at all"). -/
def State.takeInput (s : State) : Host.Outcome State Fault Refusal :=
  match s.inputs with
  | [] => .next s
  | x :: rest => State.handle { s with inputs := rest } x

/-- What is presented, put before all other inputs. -/
def State.presentFirst (s : State) (f : Fetched) : State := { s with inputs := .present f :: s.inputs }

end Sys2Proof.Machine
end

