-- ==== Sys2Proof/Machine/Step.lean ====
section
/-! DEFINITION. One step of the machine, and where its next instruction is fetched from: the block fetches no
instruction of its own (20_memory.md R50), the host presents them at the command port (00_scope.md R8). -/

namespace Sys2Proof.Machine

/-- One step: the next input is taken and handled. -/
def step (s : State) : Host.Outcome State Fault Refusal := s.takeInput

/-- The state with the instruction of a table word presented as the next input. -/
def State.withFetchWord (s : State) (nbits w : Nat) : State := s.presentFirst (tableFetch nbits w)

end Sys2Proof.Machine
end

