-- ==== Sys2Proof/Safety.lean ====
section
/-! DEFINITION. The terms claims use: the premises about the environment (92_eei_decisions.md, "Premises a claim will
usually want"), the channel's history, and what holds of every state that a run can reach. -/

namespace Sys2Proof.Machine

/-- The draw that the `k`-th access from now will take (`k = 0` is the next). -/
def State.drawAt (s : State) (k : Nat) : ChanDraw :=
  match s.draws[k]? with
  | some d => d
  | none => Config.chanDraw (s.drawCount + k)

/-- The reset input is not asserted during the next `n` accesses. A call takes at most five: the flush and four reads;
a PARSE_FRAME at most three. -/
def State.NoReset (s : State) (n : Nat) : Prop := ∀ k, k < n → (s.drawAt k).reset = false

/-- All the bytes that arrive from the start of a call's ACK read to the end of its `j`-th read (draw 0 is the flush's). -/
def State.arrivedBy (s : State) (j : Nat) : Bytes :=
  ((List.range j).map fun k => (s.drawAt (k + 1)).arrived).flatten

/-- RX, and behind it all the bytes that arrive during the next `n` accesses. -/
def State.queueAfter (s : State) (n : Nat) : Bytes :=
  s.rx ++ ((List.range n).map fun k => (s.drawAt k).arrived).flatten

/-- The reset input was asserted at one of the accesses made on the way from `s` to `t`. -/
def State.ResetOnTheWay (s t : State) : Prop :=
  ∃ k, s.drawCount + k < t.drawCount ∧ (s.drawAt k).reset = true

/-- The timeout has a bound, the premise under which "every read ends" (70_reset_and_hazards.md R165). -/
def Bounded (t : Duration) : Prop := ∃ n, t = .finite n

/-- The bytes a history wrote to TX, in order. -/
def writtenBy : List Event → Bytes
  | [] => []
  | .tx b :: rest => b ++ writtenBy rest
  | .flush :: rest => writtenBy rest
  | .rx _ _ :: rest => writtenBy rest
  | .link _ :: rest => writtenBy rest

/-- Whether an event is an access to the channel, which an observer of the block sees (00_scope.md R9). -/
def Event.isAccess : Event → Bool
  | .flush => true
  | .tx _ => true
  | .rx _ _ => true
  | .link _ => false

/-- The accesses to the channel in a history. -/
def accesses (h : List Event) : List Event := h.filter Event.isAccess

/-- How an operation that got the payload `p` ends (60_exceptions.md R140). -/
def strictEnding (strict : Bool) (anom : BitVec 6) (p : Bytes) : Ending :=
  if strict && anom != 0 then .fail .protocolViolation else .ok p

/-- The log events of one examination: none if what is examined holds. -/
def eventUnless (holds : Bool) (e : LogEvent) : List LogEvent := if holds then [] else [e]

/-- The log events of the flags set in a value of `ANOM`, in the order in which their tests are made (60_exceptions.md
R136). -/
def flagEvents (anom : BitVec 6) : List LogEvent :=
  [AnomFlag.ack, .pre, .lcs, .marker, .dcs, .post].flatMap fun f => if anomHas anom f then [f.logEvent] else []

/-- The log event of an ending: one for each failure (10_state.md R29). -/
def endingEvents : Ending → List LogEvent
  | .ok _ => []
  | .noResponse => []
  | .fail r => [r.logEvent]

/-- How an operation in state `t` has ended, its payload being `p`, when the postamble read returned `x` (43_frame_parse.md
R99, R101). -/
def State.EndsAfterPostamble (t : State) (x p : Bytes) : Prop :=
  (x = [] ∧ anomHas t.anom .post = false ∧ t.result.ending = .fail .parseError) ∨
  ∃ y, x = [y] ∧ anomHas t.anom .post = !decide (y = 0x00) ∧ t.result.ending = strictEnding t.strict t.anom p

/-- None of the five flags of `parse_frame()` is set (10_state.md R20). -/
def State.NoParseFlag (t : State) : Prop := ∀ f : AnomFlag, f ≠ .ack → anomHas t.anom f = false

/-- How `parse_frame()` has gone in an operation that has ended in state `t`, from the bytes `h` of its head read on, its
later reads being `more` (43_frame_parse.md R89 to R99): the flags test by test, the next read, the ending. -/
def State.FollowsReads (t : State) (h : Bytes) (more : List Event) : Prop :=
  (h = [] → more = [] ∧ t.NoParseFlag ∧ t.result.ending = .noResponse) ∧
  (1 ≤ h.length → h.length ≤ 5 → more = [] ∧ t.NoParseFlag ∧ t.result.ending = .fail .parseError) ∧
  ∀ b0 b1 b2 len c m : Byte, h = [b0, b1, b2, len, c, m] →
    anomHas t.anom .pre = !decide ([b0, b1, b2] = [0x00, 0x00, 0xFF]) ∧
    anomHas t.anom .lcs = !decide ((len.toNat + c.toNat) % 256 = 0) ∧
    (len = 0 → anomHas t.anom .marker = false ∧ anomHas t.anom .dcs = false ∧
      ∃ x, more = [.rx 1 x] ∧ t.EndsAfterPostamble x []) ∧
    (len ≠ 0 → anomHas t.anom .marker = !decide (m = 0xD5) ∧ ∃ body : Bytes,
      (body.length < len.toNat ∧ more = [.rx len.toNat body] ∧ anomHas t.anom .dcs = false ∧
        anomHas t.anom .post = false ∧ t.result.ending = .fail .parseError) ∨
      (body.length = len.toNat ∧
        anomHas t.anom .dcs = !decide ((m.toNat + sumBytes (body.take (len.toNat - 1)) +
          (body.getD (len.toNat - 1) 0).toNat) % 256 = 0) ∧
        ∃ x, more = [.rx len.toNat body, .rx 1 x] ∧ t.EndsAfterPostamble x (body.take (len.toNat - 1))))

/-- What each read of a history returned, in order. -/
def readsOf : List Event → List Bytes
  | [] => []
  | .rx _ g :: rest => g :: readsOf rest
  | .tx _ :: rest => readsOf rest
  | .flush :: rest => readsOf rest
  | .link _ :: rest => readsOf rest

/-- The link states that a history passes through, in order. -/
def linkStates : List Event → List LinkState
  | [] => []
  | .link l :: rest => l :: linkStates rest
  | .tx _ :: rest => linkStates rest
  | .flush :: rest => linkStates rest
  | .rx _ _ :: rest => linkStates rest

/-- An event the block may make: a write is the ACK or one whole built frame (20_memory.md R49, 42_frame_build.md R88),
a read asks for at most 255 bytes and returns at most what it asked for (20_memory.md R37). -/
def Event.Lawful : Event → Prop
  | .flush => True
  | .tx b => b = Config.ack ∨ ∃ c a, payloadFits a = true ∧ b = buildFrame c a
  | .rx n g => n ≤ 255 ∧ g.length ≤ n
  | .link _ => True

/-- The values of reset that 70_reset_and_hazards.md R157 lists. -/
def State.ResetListed (t : State) : Prop :=
  t.lstate = .idle ∧ t.strict = false ∧ t.anom = 0 ∧ t.crc = 0x6363 ∧ t.sum = 0 ∧ t.txbuf.length = 0 ∧
    t.head.length = 0 ∧ t.pay.length = 0 ∧ t.readResult = none ∧ t.tx = [] ∧ t.log = []

/-- What holds of every state a run from reset can reach. -/
structure State.Inv (s : State) : Prop where
  /-- no call is in progress between steps (10_state.md R17) -/
  idle : s.lstate = .idle
  /-- the capacity of TXBUF (10_state.md R23) -/
  txbuf : s.txbuf.length ≤ 262
  /-- the capacity of HEAD (10_state.md R24) -/
  head : s.head.length ≤ 6
  /-- the capacity of PAY (10_state.md R25) -/
  pay : s.pay.length ≤ 254
  /-- `DLEN` is 16 bits wide (30_encoding.md R53) -/
  dlen : s.dlen ≤ 65535
  /-- TX is what the history wrote (10_state.md R28) -/
  tx : s.tx = writtenBy s.trace
  /-- every event of the history is one the block may make -/
  trace : ∀ e, e ∈ s.trace → e.Lawful
  /-- an operation that left a mark has also left a result (60_exceptions.md R134) -/
  result : s.resultValid = false → s.trace = [] ∧ s.log = []

end Sys2Proof.Machine
end

