-- ==== Sys2Proof/Certificates/Slice0/Obligations.lean ====
section
/-! DEFINITION. The statements for the provers. -/

open Sys2Proof Sys2Proof.Machine

/-! ### Encodings -/

/-- 30_encoding.md sections 1 and 2: no bit of an encoding is dropped. -/
def Obligations.DecodeOfEncodeIsTheInstruction : Prop :=
  ∀ i : Instr, i.wellFormed = true → decode (encode i) = .ok i

/-- 30_encoding.md section 2: bytes on the line have one meaning at most. -/
def Obligations.LineBytesHaveOneMeaning : Prop :=
  ∀ (dir : Direction) (b : Bytes) (i : Instr), decode (.line dir b) = .ok i →
    encode i = .line dir b ∧ i.wellFormed = true

/-- 30_encoding.md R52, R54 to R58: a few words written out from the tables. That a table word of an operation is read with
zero and empty operands (`crcA []`, `transact 0 [] (.finite 0)`) is the model's choice and no rule's
(notes/assumptions/2.md). -/
def Obligations.WrittenOutWordsDecode : Prop :=
  decodeTableWord 8 0b0000 = some (.crcA []) ∧
  decodeTableWord 8 0b0110 = some (.transact 0 [] (.finite 0)) ∧
  decodeTableWord 8 0b1001 = some .reserved9 ∧
  decode (.port { op := 0b0011, cmd := 0xD4, din := [0x01], tmo := .finite 5 }) = .ok (.dcs 0xD4 [0x01]) ∧
  decode (.line .toDevice [0x00, 0x00, 0xFF, 0x02, 0xFE, 0xD4, 0x01, 0x2B, 0x00]) =
    .ok (.frameHostToDevice 0x01 []) ∧
  decode (.line .toHost [0x00, 0x00, 0xFF, 0x01, 0xFF, 0xD5, 0x2B, 0x00]) = .ok (.frameDeviceToHost []) ∧
  decode (.line .toDevice [0x00, 0x00, 0xFF, 0x00, 0xFF, 0x00]) = .ok (.frameAck .toDevice)

/-! ### CRC_A -/

/-- 40_crc_a.md R68, an inference the spec marks as its own: the byte-wise step is eight shifts of the register. -/
def Obligations.CrcStepIsEightShifts : Prop :=
  ∀ (c : CrcWord) (x : Byte), crcStep c x = crcStepSerial c x

/-- 40_crc_a.md R70 with the register run bit by bit (R68, an inference the spec marks as its own): encoding, result,
what stays, corner cases, example. That `crc` keeps the final register and that RESULT copies ANOM are the model's choices
(notes/assumptions/19.md, 18.md). -/
def Obligations.CrcAOperation : Prop :=
  (∀ (cmd : Byte) (d : Bytes) (tmo : Duration), d.length ≤ 65535 →
    decode (.port { op := 0x0, cmd := cmd, din := d, tmo := tmo }) = .ok (.crcA d)) ∧
  (∀ (d : Bytes) (s : State), exec (.crcA d) s = .next { s with
    crc := d.foldl crcStepSerial 0x6363
    result := {
      ending := .ok [(d.foldl crcStepSerial 0x6363).extractLsb' 0 8, (d.foldl crcStepSerial 0x6363).extractLsb' 8 8]
      anom := s.anom }
    resultValid := true }) ∧
  (∀ d : Bytes, crcA d = [(d.foldl crcStepSerial 0x6363).extractLsb' 0 8,
    (d.foldl crcStepSerial 0x6363).extractLsb' 8 8]) ∧
  crcA [] = [0x63, 0x63] ∧ crcA [0x63, 0x63] = [0x00, 0x00] ∧ crcStep 0x0000 0x00 = 0x0000 ∧
  crcA [0x12, 0x34] = [0x26, 0xCF]

/-- 40_crc_a.md R71, whole: the data unchanged and in order, then the two bytes of its CRC_A, the register's low byte
first. What the operation leaves in `crc` is unspecified (10_state.md R26), so any value is allowed. That RESULT copies ANOM
is the model's choice (notes/assumptions/18.md). -/
def Obligations.WithCrcAOperation : Prop :=
  (∀ (cmd : Byte) (d : Bytes) (tmo : Duration), d.length ≤ 65535 →
    decode (.port { op := 0x1, cmd := cmd, din := d, tmo := tmo }) = .ok (.withCrcA d)) ∧
  (∀ (d : Bytes) (s : State), ∃ r : CrcWord, exec (.withCrcA d) s = .next { s with
    crc := r
    result := { ending := .ok (d ++ crcA d), anom := s.anom }
    resultValid := true }) ∧
  (∀ d : Bytes, crcA d = [(d.foldl crcStep 0x6363).extractLsb' 0 8, (d.foldl crcStep 0x6363).extractLsb' 8 8]) ∧
  withCrcA [] = [0x63, 0x63] ∧ withCrcA [0x05, 0x00, 0x08] = [0x05, 0x00, 0x08, 0xE1, 0x10]

/-- 40_crc_a.md R72 (c) and (d), inferences the spec marks as its own: the fold goes on over more data, and data followed
by its own CRC_A leaves the register at zero. -/
def Obligations.CrcFoldContinuesAndResidueIsZero : Prop :=
  (∀ d e : Bytes, crcA (d ++ e) = crcBytes (e.foldl crcStep (d.foldl crcStep 0x6363))) ∧
  ∀ d : Bytes, crcA (withCrcA d) = [0x00, 0x00]

/-- 40_crc_a.md R73: the result of a CRC operation depends on its data alone, whatever the states it runs in. -/
def Obligations.CrcResultDependsOnDataAlone : Prop :=
  ∀ (i : Instr) (d : Bytes) (s u t v : State), (i = .crcA d ∨ i = .withCrcA d) →
    exec i s = .next t → exec i u = .next v →
    v.result.ending = t.result.ending ∧ ∃ b, t.result.ending = .ok b

/-! ### The link checksums -/

/-- 41_link_checksum.md R75 and R77, whole. -/
def Obligations.LcsNegatesTheLength : Prop :=
  (∀ l : Byte, (lcs l).toNat = (256 - l.toNat) % 256 ∧ lcs l = ~~~l + 1 ∧
    (l.toNat + (lcs l).toNat) % 256 = 0) ∧
  lcs 0 = 0 ∧ lcs 1 = 0xFF ∧ lcs 0x80 = 0x80 ∧ lcs 0xFF = 0x01 ∧
  ∀ l c : Byte, (lcsOk l c = true ↔ (l.toNat + c.toNat) % 256 = 0) ∧ (lcsOk l c = true ↔ c = lcs l)

/-- 41_link_checksum.md R76 and R78, and the corner cases of R80: the data checksum of marker and payload. -/
def Obligations.DcsClosesTheSum : Prop :=
  (∀ (m : Byte) (p : Bytes), (dcs m p).toNat = (256 - (m.toNat + sumBytes p) % 256) % 256 ∧
    (m.toNat + sumBytes p + (dcs m p).toNat) % 256 = 0) ∧
  (∀ (m : Byte) (p : Bytes) (c : Byte),
    (dcsOk m p c = true ↔ (m.toNat + sumBytes p + c.toNat) % 256 = 0) ∧ (dcsOk m p c = true ↔ c = dcs m p)) ∧
  (∀ m : Byte, dcs m [] = lcs m) ∧
  ∀ (m : Byte) (p q : Bytes), p.Perm q → dcs m p = dcs m q

/-- 41_link_checksum.md R79: encoding, result, what stays, corner cases, example. That RESULT copies ANOM is the model's
choice (notes/assumptions/18.md). -/
def Obligations.LcsOperation : Prop :=
  (∀ (cmd : Byte) (d : Bytes) (tmo : Duration), d.length ≤ 65535 →
    decode (.port { op := 0x2, cmd := cmd, din := d, tmo := tmo }) = .ok (.lcs cmd)) ∧
  (∀ (l : Byte) (s : State), exec (.lcs l) s = .next { s with
    result := { ending := .ok [BitVec.ofNat 8 ((256 - l.toNat) % 256)], anom := s.anom }
    resultValid := true }) ∧
  lcs 0 = 0x00 ∧ lcs 0x80 = 0x80 ∧ lcs 0x06 = 0xFA

/-- 41_link_checksum.md R80, with the accumulator that R82 (an inference the spec marks as its own) says forms the
checksum: the operation's byte is `dcs`. That `sum` keeps the sum modulo 256 and that RESULT copies ANOM are the model's
choices (notes/assumptions/19.md, 18.md). -/
def Obligations.DcsOperation : Prop :=
  (∀ (cmd : Byte) (d : Bytes) (tmo : Duration), d.length ≤ 65535 →
    decode (.port { op := 0x3, cmd := cmd, din := d, tmo := tmo }) = .ok (.dcs cmd d)) ∧
  (∀ (m : Byte) (p : Bytes) (s : State), exec (.dcs m p) s = .next { s with
    sum := BitVec.ofNat 8 (m.toNat + sumBytes p)
    result := { ending := .ok [dcs m p], anom := s.anom }
    resultValid := true }) ∧
  dcs 0xD4 [] = 0x2C ∧ dcs 0xD4 [0x2C] = 0x00 ∧ dcs 0xD5 [0x02, 0x32, 0x01, 0x06, 0x07] = 0xE9

/-! ### Building a frame -/

/-- 42_frame_build.md R84: within the limit of R85 the frame of R83, byte for byte, is returned and stands in TXBUF; past
it the operation fails and nothing is built. That `sum` is run, that TXBUF and `sum` keep their values after the operation,
and that an Ok RESULT copies ANOM are the model's choices (notes/assumptions/20.md, 19.md, 18.md). -/
def Obligations.BuildFrameOperation : Prop :=
  (∀ (cmd : Byte) (d : Bytes) (tmo : Duration), d.length ≤ 65535 →
    decode (.port { op := 0x4, cmd := cmd, din := d, tmo := tmo }) = .ok (.buildFrame cmd d)) ∧
  (∀ (c : Byte) (a : Bytes) (s : State), a.length + 1 ≤ 254 →
    ∃ f : Bytes,
      f = [0x00, 0x00, 0xFF, BitVec.ofNat 8 (a.length + 2), BitVec.ofNat 8 (256 - (a.length + 2)), 0xD4, c] ++ a ++
        [dcs 0xD4 (c :: a), 0x00] ∧
      f.length = a.length + 9 ∧
      exec (.buildFrame c a) s = .next { s with
        sum := BitVec.ofNat 8 (0xD4 + c.toNat + sumBytes a)
        txbuf := f
        result := { ending := .ok f, anom := s.anom }
        resultValid := true }) ∧
  (∀ (c : Byte) (a : Bytes) (s : State), 254 < a.length + 1 →
    exec (.buildFrame c a) s = .next { s with
      log := s.log ++ [.operandRange]
      result := { ending := .fail .operandRange, anom := s.anom }
      resultValid := true })

/-- 42_frame_build.md R86, an inference the spec marks as its own: the two sums of a built frame, its bytes by offset, and
that distinct commands and arguments give distinct frames. -/
def Obligations.BuiltFrameInvariants : Prop :=
  (∀ (c : Byte) (a : Bytes), a.length + 1 ≤ 254 →
    (buildFrame c a).length = a.length + 9 ∧
    (buildFrame c a).take 3 = [0x00, 0x00, 0xFF] ∧
    ((buildFrame c a).getD 3 0).toNat = a.length + 2 ∧
    (((buildFrame c a).getD 3 0).toNat + ((buildFrame c a).getD 4 0).toNat) % 256 = 0 ∧
    (buildFrame c a).getD 5 0 = 0xD4 ∧
    ((buildFrame c a).drop 6).take (a.length + 1) = c :: a ∧
    (((buildFrame c a).getD 5 0).toNat + sumBytes (((buildFrame c a).drop 6).take (a.length + 1)) +
      ((buildFrame c a).getD (a.length + 7) 0).toNat) % 256 = 0 ∧
    (buildFrame c a).getD (a.length + 8) 1 = 0x00) ∧
  ∀ (c c' : Byte) (a a' : Bytes), buildFrame c a = buildFrame c' a' → c = c' ∧ a = a'

/-- 60_exceptions.md R141: nothing happens before the failure. -/
def Obligations.OperandRangeFailsBeforeAnyEffect : Prop :=
  ∀ (c : Byte) (a : Bytes) (tmo : Duration) (s : State), 254 < a.length + 1 →
    ∀ i : Instr, (i = .buildFrame c a ∨ i = .transact c a tmo) →
      exec i s = .next { s with
        log := s.log ++ [.operandRange]
        result := { ending := .fail .operandRange, anom := s.anom }
        resultValid := true }

/-! ### Reserved select codes -/

/-- 30_encoding.md R54: a reserved code presented at the port, whatever its operands, ends at once; only RESULT and LOG
change (and the model's own list of inputs, from which the request was taken). -/
def Obligations.ReservedCodesEndUnsupported : Prop :=
  (∀ (op : BitVec 4) (cmd : Byte) (d : Bytes) (tmo : Duration) (rest : List Input) (s : State),
    7 ≤ op.toNat → d.length ≤ 65535 → s.lstate = .idle →
    s.inputs = .present (.port { op := op, cmd := cmd, din := d, tmo := tmo }) :: rest →
    step s = .next { s with
      inputs := rest
      log := s.log ++ [.unsupportedOperation]
      result := { ending := .fail .unsupportedOperation, anom := s.anom }
      resultValid := true }) ∧
  ∀ (i : Instr) (s : State), i.isReserved = true →
    exec i s = .next { s with
      log := s.log ++ [.unsupportedOperation]
      result := { ending := .fail .unsupportedOperation, anom := s.anom }
      resultValid := true }

/-! ### Codes -/

/-- 60_exceptions.md R135, whole. -/
def Obligations.OutcomeCodes : Prop :=
  (∀ b : Bytes, (Ending.ok b).kindCode = 0 ∧ (Ending.ok b).reasonCode = 0) ∧
  Ending.noResponse.kindCode = 1 ∧ Ending.noResponse.reasonCode = 0 ∧
  (∀ r : Reason, (Ending.fail r).kindCode = 2 ∧ (Ending.fail r).reasonCode = r.code) ∧
  Reason.parseError.code = 1 ∧ Reason.protocolViolation.code = 2 ∧ Reason.unsupportedOperation.code = 3 ∧
  Reason.operandRange.code = 4 ∧
  AnomFlag.ack.mask = 0b000001 ∧ AnomFlag.pre.mask = 0b000010 ∧ AnomFlag.lcs.mask = 0b000100 ∧
  AnomFlag.marker.mask = 0b001000 ∧ AnomFlag.dcs.mask = 0b010000 ∧ AnomFlag.post.mask = 0b100000

/-! ### The channel primitives -/

/-- 20_memory.md R37: a read that ends returns the oldest bytes of the queue and leaves the others; it is full when the
queue can fill it, and short only then not. -/
def Obligations.ReadTakesTheOldestBytes : Prop :=
  ∀ (s : State) (n : Nat), (s.drawAt 0).reset = false → Bounded s.timeout →
    ∃ (r : Bytes) (t : State), s.rxRead n = .got r t ∧
      r ++ t.rx = s.rx ++ (s.drawAt 0).arrived ∧ r.length ≤ n ∧
      (n ≤ (s.rx ++ (s.drawAt 0).arrived).length → r.length = n) ∧
      ((s.rx ++ (s.drawAt 0).arrived).length < n →
        r.length = min (s.drawAt 0).count (s.rx ++ (s.drawAt 0).arrived).length) ∧
      (n = 0 → r = []) ∧
      t.tx = s.tx ∧ t.trace = s.trace ++ [.rx n r]

/-- 20_memory.md R36, R38 and R47: a write appends to TX; a flush empties RX and what is not yet sent, and recalls nothing
that was delivered; the device receives the bytes in the order written. -/
def Obligations.WriteAppendsAndFlushDiscards : Prop :=
  ∀ (s : State) (b : Bytes),
    (s.txWrite b).tx = s.tx ++ b ∧ (s.txWrite b).rx = s.rx ∧
    (s.txWrite b).txSent ++ (s.txWrite b).txUnsent = s.txSent ++ s.txUnsent ++ b ∧
    s.flush.rx = [] ∧ s.flush.txUnsent = [] ∧ s.flush.tx = s.tx ∧
    s.txSent <+: s.flush.txSent ∧ s.flush.txSent <+: s.txSent ++ s.txUnsent ∧
    s.environment.txSent ++ s.environment.txUnsent = s.txSent ++ s.txUnsent ∧
    s.environment.rx = s.rx ++ (s.drawAt 0).arrived

/-! ### PARSE_FRAME -/

/-- 43_frame_parse.md R101: OP 5 is PARSE_FRAME whatever the other operands (30_encoding.md R51). Under a bounded timeout, and unless the reset input interrupts it, PARSE_FRAME ends in one of
its results and touches nothing but what the rule lists. -/
def Obligations.ParseFrameCompletes : Prop :=
  (∀ (cmd : Byte) (d : Bytes) (tmo : Duration), d.length ≤ 65535 →
    decode (.port { op := 0x5, cmd := cmd, din := d, tmo := tmo }) = .ok .parseFrame) ∧
  ∀ s : State, Bounded s.timeout → s.NoReset 3 →
    ∃ t : State, exec .parseFrame s = .next t ∧
      t.resultValid = true ∧ t.result.anom = t.anom ∧ anomHas t.anom .ack = false ∧
      ((∃ p, p.length ≤ 254 ∧ t.result.ending = .ok p) ∨ t.result.ending = .noResponse ∨
        t.result.ending = .fail .parseError ∨
        (s.strict = true ∧ t.anom ≠ 0 ∧ t.result.ending = .fail .protocolViolation)) ∧
      t.crc = s.crc ∧ t.lstate = s.lstate ∧ t.timeout = s.timeout ∧ t.strict = s.strict ∧
      t.latches = s.latches ∧ t.txbuf = s.txbuf ∧ t.tx = s.tx ∧ t.inputs = s.inputs ∧
      t.txSent ++ t.txUnsent = s.txSent ++ s.txUnsent

/-- 43_frame_parse.md R89 to R93 and R95 to R99: whatever the reads of a PARSE_FRAME return, its flags, its log, its
result and the next read follow from the bytes they returned, test by test; the bytes returned are consumed, and those
behind them stay. -/
def Obligations.ParseFollowsItsReads : Prop :=
  ∀ s t : State, s.NoReset 3 → exec .parseFrame s = .next t →
    ∃ (h : Bytes) (more : List Event), t.trace = s.trace ++ [.rx 6 h] ++ more ∧ h.length ≤ 6 ∧
      t.log = s.log ++ flagEvents t.anom ++ endingEvents t.result.ending ∧
      t.result.anom = t.anom ∧ t.strict = s.strict ∧ anomHas t.anom .ack = false ∧
      (h.length ≤ 5 → t.anom = 0) ∧ t.FollowsReads h more ∧
      h ++ (readsOf more).flatten ++ t.rx = s.queueAfter (1 + (readsOf more).length)

/-- 43_frame_parse.md R92, R93, R96, R98: a frame that stands whole in RX, `LEN` not 0. Every flag is set exactly if its
test fails, the log has the events in the order of the tests, the payload is what `LEN` says, the reads are 6, `LEN`
and 1. -/
def Obligations.ParseReportsEveryAnomaly : Prop :=
  ∀ (s : State) (b0 b1 b2 len c m d x : Byte) (p rest : Bytes),
    s.NoReset 3 → p.length + 1 = len.toNat →
    s.rx = [b0, b1, b2, len, c, m] ++ p ++ [d, x] ++ rest →
    ∃ t : State, exec .parseFrame s = .next t ∧
      anomHas t.anom .ack = false ∧
      anomHas t.anom .pre = !decide ([b0, b1, b2] = [0x00, 0x00, 0xFF]) ∧
      anomHas t.anom .lcs = !decide ((len.toNat + c.toNat) % 256 = 0) ∧
      anomHas t.anom .marker = !decide (m = 0xD5) ∧
      anomHas t.anom .dcs = !decide ((m.toNat + sumBytes p + d.toNat) % 256 = 0) ∧
      anomHas t.anom .post = !decide (x = 0x00) ∧
      t.result = { ending := strictEnding s.strict t.anom p, anom := t.anom } ∧ t.resultValid = true ∧
      t.log = s.log ++ eventUnless (decide ([b0, b1, b2] = [0x00, 0x00, 0xFF])) .preambleMismatch ++
        eventUnless (decide ((len.toNat + c.toNat) % 256 = 0)) .lengthChecksumMismatch ++
        eventUnless (decide (m = 0xD5)) .markerMismatch ++
        eventUnless (decide ((m.toNat + sumBytes p + d.toNat) % 256 = 0)) .dataChecksumMismatch ++
        eventUnless (decide (x = 0x00)) .postambleMismatch ++
        eventUnless (!(s.strict && t.anom != 0)) .protocolViolation ∧
      t.trace = s.trace ++ [.rx 6 [b0, b1, b2, len, c, m], .rx len.toNat (p ++ [d]), .rx 1 [x]] ∧
      t.rx = rest ++ (s.drawAt 0).arrived ++ (s.drawAt 1).arrived ++ (s.drawAt 2).arrived ∧
      t.tx = s.tx ∧ t.lstate = s.lstate

/-- 43_frame_parse.md R95: a head with `LEN` 0 and one byte after it. The marker is not examined, nothing is read but the
head and the postamble, the payload is empty. -/
def Obligations.ParseOfZeroLengthReadsNoBody : Prop :=
  ∀ (s : State) (b0 b1 b2 c m x : Byte) (rest : Bytes),
    s.NoReset 2 → s.rx = [b0, b1, b2, 0, c, m, x] ++ rest →
    ∃ t : State, exec .parseFrame s = .next t ∧
      anomHas t.anom .ack = false ∧
      anomHas t.anom .pre = !decide ([b0, b1, b2] = [0x00, 0x00, 0xFF]) ∧
      anomHas t.anom .lcs = !decide (c = 0x00) ∧
      anomHas t.anom .marker = false ∧ anomHas t.anom .dcs = false ∧
      anomHas t.anom .post = !decide (x = 0x00) ∧
      t.result = { ending := strictEnding s.strict t.anom [], anom := t.anom } ∧
      t.trace = s.trace ++ [.rx 6 [b0, b1, b2, 0, c, m], .rx 1 [x]] ∧
      t.rx = rest ++ (s.drawAt 0).arrived ++ (s.drawAt 1).arrived

/-- 43_frame_parse.md R90 and R91: a head read that returned nothing, and one that returned 1 to 5 bytes. -/
def Obligations.ParseOfShortHead : Prop :=
  ∀ (s : State) (q h : Bytes), Bounded s.timeout → s.NoReset 1 →
    q = s.rx ++ (s.drawAt 0).arrived → q.length < 6 → h = q.take (s.drawAt 0).count →
    ∃ t : State, exec .parseFrame s = .next t ∧
      t.anom = 0 ∧ t.trace = s.trace ++ [.rx 6 h] ∧ h ++ t.rx = q ∧ t.tx = s.tx ∧
      (h = [] → t.result = { ending := .noResponse, anom := 0 } ∧ t.log = s.log) ∧
      (h ≠ [] → t.result = { ending := .fail .parseError, anom := 0 } ∧ t.log = s.log ++ [.parseError])

/-- 43_frame_parse.md R97 and 60_exceptions.md R144: a body cut short ends the operation; the flags of the tests made so
far stand, those of the data checksum and the postamble cannot be set; the bytes that came back are consumed. -/
def Obligations.ParseOfShortBody : Prop :=
  ∀ (s : State) (b0 b1 b2 len c m : Byte) (q r : Bytes), Bounded s.timeout → s.NoReset 2 →
    s.rx ++ (s.drawAt 0).arrived ++ (s.drawAt 1).arrived = [b0, b1, b2, len, c, m] ++ q →
    6 ≤ (s.rx ++ (s.drawAt 0).arrived).length → q.length < len.toNat → r = q.take (s.drawAt 1).count →
    ∃ t : State, exec .parseFrame s = .next t ∧
      anomHas t.anom .ack = false ∧
      anomHas t.anom .pre = !decide ([b0, b1, b2] = [0x00, 0x00, 0xFF]) ∧
      anomHas t.anom .lcs = !decide ((len.toNat + c.toNat) % 256 = 0) ∧
      anomHas t.anom .marker = !decide (m = 0xD5) ∧
      anomHas t.anom .dcs = false ∧ anomHas t.anom .post = false ∧
      t.result = { ending := .fail .parseError, anom := t.anom } ∧
      t.log.getLast? = some .parseError ∧
      t.trace = s.trace ++ [.rx 6 [b0, b1, b2, len, c, m], .rx len.toNat r] ∧ r ++ t.rx = q ∧
      t.tx = s.tx

/-- 43_frame_parse.md R99: a frame that is whole but for its postamble is not delivered. -/
def Obligations.ParseWithoutPostamble : Prop :=
  ∀ (s : State) (b0 b1 b2 len c m d : Byte) (p : Bytes), Bounded s.timeout → s.NoReset 3 →
    p.length + 1 = len.toNat → s.rx = [b0, b1, b2, len, c, m] ++ p ++ [d] →
    (∀ k, k < 3 → (s.drawAt k).arrived = []) →
    ∃ t : State, exec .parseFrame s = .next t ∧
      t.result = { ending := .fail .parseError, anom := t.anom } ∧
      anomHas t.anom .dcs = !decide ((m.toNat + sumBytes p + d.toNat) % 256 = 0) ∧
      anomHas t.anom .post = false ∧
      t.log.getLast? = some .parseError ∧ t.rx = [] ∧
      t.trace = s.trace ++ [.rx 6 [b0, b1, b2, len, c, m], .rx len.toNat (p ++ [d]), .rx 1 []]

/-- 43_frame_parse.md R89, R95 and R97, 41_link_checksum.md R82: what stands in HEAD, PAY and `sum` when the operation ends.
That they keep it afterwards is the model's choice (10_state.md R26; notes/assumptions/19.md). -/
def Obligations.ParseLeavesTheBuffers : Prop :=
  (∀ (s : State) (b0 b1 b2 len c m : Byte) (p d rest : Bytes),
    s.NoReset 3 → p.length + 1 = len.toNat → d.length = 2 → s.rx = [b0, b1, b2, len, c, m] ++ p ++ d ++ rest →
    ∃ t : State, exec .parseFrame s = .next t ∧
      t.head = [b0, b1, b2, len, c, m] ∧ t.pay = p ∧ t.sum = BitVec.ofNat 8 (m.toNat + sumBytes p)) ∧
  (∀ (s : State) (b0 b1 b2 c m x : Byte) (rest : Bytes),
    s.NoReset 2 → s.rx = [b0, b1, b2, 0, c, m, x] ++ rest →
    ∃ t : State, exec .parseFrame s = .next t ∧ t.head = [b0, b1, b2, 0, c, m] ∧ t.pay = [] ∧ t.sum = s.sum) ∧
  ∀ (s : State) (q : Bytes), Bounded s.timeout → s.NoReset 1 →
    q = s.rx ++ (s.drawAt 0).arrived → q.length < 6 →
    ∃ t : State, exec .parseFrame s = .next t ∧
      t.head = q.take (s.drawAt 0).count ∧ t.pay = s.pay ∧ t.sum = s.sum

/-- 43_frame_parse.md R101, corner cases (an inference for lengths 251 to 254): a built frame fed back into RX parses to
its own payload with only the marker flag; strict mode turns that into a failure (90_conflicts.md C5). -/
def Obligations.BuiltFrameParsesToItsPayload : Prop :=
  ∀ (c : Byte) (a rest : Bytes) (s : State), a.length + 1 ≤ 254 → s.NoReset 3 →
    s.rx = buildFrame c a ++ rest →
    ∃ t : State, exec .parseFrame s = .next t ∧ t.anom = 0b001000 ∧
      t.result = { ending := if s.strict then .fail .protocolViolation else .ok (c :: a), anom := 0b001000 }

/-- 43_frame_parse.md R100, end (an inference the spec marks as its own): a frame the device sends while no operation runs
is parsed to its payload with no flag, in either mode. -/
def Obligations.DeviceFrameParsesClean : Prop :=
  ∀ (p : Bytes) (s u : State), p.length ≤ 254 → s.rx = [] → s.NoReset 3 →
    exec (.frameDeviceToHost p) s = .next u →
    ∃ t : State, exec .parseFrame u = .next t ∧ t.result = { ending := .ok p, anom := 0 } ∧
      t.rx = (s.drawAt 0).arrived ++ (s.drawAt 1).arrived ++ (s.drawAt 2).arrived ∧ t.log = s.log

/-! ### TRANSACT -/

/-- A call within the operand limit, under a bounded timeout and unless the reset input interrupts it, ends in `IDLE` with a
result. That it ends is 70_reset_and_hazards.md R165, an inference the spec marks as its own, and rests on the channel
accepting writes (R164), which the model's writes always find true (DESIGN CHOICE, notes/assumptions/29.md). The timeout is
the call's (44_link_transaction.md R112); the ACK is written back exactly if a payload was parsed, whatever the flags and the
mode (R110). Behind what the flush left, the bytes on their way to the device are the frame and that ACK. -/
def Obligations.CallCompletesAndAcksWhatItParsed : Prop :=
  ∀ (c : Byte) (a : Bytes) (tmo : Duration) (s : State),
    a.length + 1 ≤ 254 → Bounded tmo → s.NoReset 5 →
    ∃ t : State, exec (.transact c a tmo) s = .next t ∧
      t.lstate = .idle ∧ t.timeout = tmo ∧ t.resultValid = true ∧
      t.result.anom = t.anom ∧
      t.crc = s.crc ∧ t.strict = s.strict ∧ t.latches = s.latches ∧ t.inputs = s.inputs ∧
      ((t.tx = s.tx ++ buildFrame c a ++ Config.ack ∧ t.deviceWait = false ∧
          t.txSent ++ t.txUnsent =
            s.txSent ++ s.txUnsent.take (s.drawAt 0).sent ++ buildFrame c a ++ Config.ack ∧
          ∃ p, p.length ≤ 254 ∧ t.result.ending = strictEnding s.strict t.anom p) ∨
        (t.tx = s.tx ++ buildFrame c a ∧
          t.txSent ++ t.txUnsent = s.txSent ++ s.txUnsent.take (s.drawAt 0).sent ++ buildFrame c a ∧
          (t.result.ending = .noResponse ∨ t.result.ending = .fail .parseError)))

/-- 44_link_transaction.md R104 with every read full: whatever six bytes come where the ACK is expected, and whatever the
bytes of the response, the call goes on, sets exactly the flags whose tests fail, logs them in order, writes the ACK
back and ends as the mode says. Each byte may arrive at any time before the read that takes it. -/
def Obligations.CallReportsEveryAnomaly : Prop :=
  ∀ (s : State) (cmd : Byte) (args : Bytes) (tmo : Duration) (a0 a1 a2 a3 a4 a5 b0 b1 b2 len c m d x : Byte)
    (p rest : Bytes),
    args.length + 1 ≤ 254 → s.NoReset 5 → p.length + 1 = len.toNat →
    s.arrivedBy 4 = [a0, a1, a2, a3, a4, a5] ++ [b0, b1, b2, len, c, m] ++ p ++ [d, x] ++ rest →
    6 ≤ (s.arrivedBy 1).length → 12 ≤ (s.arrivedBy 2).length → 12 + len.toNat ≤ (s.arrivedBy 3).length →
    ∃ t : State, exec (.transact cmd args tmo) s = .next t ∧
      anomHas t.anom .ack = !decide ([a0, a1, a2, a3, a4, a5] = Config.ack) ∧
      anomHas t.anom .pre = !decide ([b0, b1, b2] = [0x00, 0x00, 0xFF]) ∧
      anomHas t.anom .lcs = !decide ((len.toNat + c.toNat) % 256 = 0) ∧
      anomHas t.anom .marker = !decide (m = 0xD5) ∧
      anomHas t.anom .dcs = !decide ((m.toNat + sumBytes p + d.toNat) % 256 = 0) ∧
      anomHas t.anom .post = !decide (x = 0x00) ∧
      t.result = { ending := strictEnding s.strict t.anom p, anom := t.anom } ∧
      t.log = s.log ++ eventUnless (decide ([a0, a1, a2, a3, a4, a5] = Config.ack)) .ackMismatch ++
        eventUnless (decide ([b0, b1, b2] = [0x00, 0x00, 0xFF])) .preambleMismatch ++
        eventUnless (decide ((len.toNat + c.toNat) % 256 = 0)) .lengthChecksumMismatch ++
        eventUnless (decide (m = 0xD5)) .markerMismatch ++
        eventUnless (decide ((m.toNat + sumBytes p + d.toNat) % 256 = 0)) .dataChecksumMismatch ++
        eventUnless (decide (x = 0x00)) .postambleMismatch ++
        eventUnless (!(s.strict && t.anom != 0)) .protocolViolation ∧
      accesses t.trace = accesses s.trace ++ [.flush, .tx (buildFrame cmd args),
        .rx 6 [a0, a1, a2, a3, a4, a5], .rx 6 [b0, b1, b2, len, c, m], .rx len.toNat (p ++ [d]), .rx 1 [x],
        .tx Config.ack] ∧
      t.rx = rest ∧ t.lstate = .idle ∧ t.timeout = tmo

/-- 44_link_transaction.md R116, an inference the spec marks as its own: what a call guarantees. -/
def Obligations.CleanCallDeliversThePayload : Prop :=
  ∀ (s : State) (c : Byte) (a p : Bytes) (tmo : Duration),
    a.length + 1 ≤ 254 → p.length ≤ 254 → s.NoReset 5 →
    s.arrivedBy 4 = Config.ack ++ deviceFrame p →
    6 ≤ (s.arrivedBy 1).length → 12 ≤ (s.arrivedBy 2).length → 13 + p.length ≤ (s.arrivedBy 3).length →
    ∃ t : State, exec (.transact c a tmo) s = .next t ∧
      t.result = { ending := .ok p, anom := 0 } ∧ t.anom = 0 ∧
      t.tx = s.tx ++ buildFrame c a ++ Config.ack ∧ t.rx = [] ∧ t.lstate = .idle ∧ t.log = s.log

/-- 44_link_transaction.md R114, an inference the spec marks as its own: the channel events of every ending, in order; and
43_frame_parse.md R102: the ACK flag follows from the bytes of the ACK read alone, and the call goes on. The other flags
follow from the bytes of the later reads as in a PARSE_FRAME, also after a `LEN` of 0 and before a PARSE_ERROR (R89 to R99,
60_exceptions.md R144), and what arrived since the flush and was not read stays in RX. -/
def Obligations.CallEventsFollowTheEnding : Prop :=
  ∀ (c : Byte) (a : Bytes) (tmo : Duration) (s t : State),
    a.length + 1 ≤ 254 → s.NoReset 5 → exec (.transact c a tmo) s = .next t →
    ∃ r h : Bytes, ∃ tail : List Event,
      accesses t.trace =
        accesses s.trace ++ [.flush, .tx (buildFrame c a), .rx 6 r, .rx 6 h] ++ tail ∧
      anomHas t.anom .ack = !decide (r = [0x00, 0x00, 0xFF, 0x00, 0xFF, 0x00]) ∧
      t.log = s.log ++ flagEvents t.anom ++ endingEvents t.result.ending ∧
      t.result.anom = t.anom ∧ t.strict = s.strict ∧
      (∃ more, (tail = more ∨ tail = more ++ [.tx Config.ack]) ∧ t.FollowsReads h more) ∧
      r ++ h ++ (readsOf tail).flatten ++ t.rx = s.arrivedBy (2 + (readsOf tail).length) ∧
      ((h = [] ∧ tail = [] ∧ t.result.ending = .noResponse) ∨
       (1 ≤ h.length ∧ h.length ≤ 5 ∧ tail = [] ∧ t.result.ending = .fail .parseError) ∨
       (h.length = 6 ∧ ∃ n : Nat, n = (h.getD 3 0).toNat ∧
        ((1 ≤ n ∧ ∃ b, b.length < n ∧ tail = [.rx n b] ∧ t.result.ending = .fail .parseError) ∨
         (1 ≤ n ∧ ∃ b, b.length = n ∧ tail = [.rx n b, .rx 1 []] ∧ t.result.ending = .fail .parseError) ∨
         (n = 0 ∧ tail = [.rx 1 []] ∧ t.result.ending = .fail .parseError) ∨
         (1 ≤ n ∧ ∃ b x, b.length = n ∧ tail = [.rx n b, .rx 1 [x], .tx Config.ack] ∧
          t.result.ending = strictEnding s.strict t.anom (b.take (n - 1))) ∨
         (n = 0 ∧ ∃ x, tail = [.rx 1 [x], .tx Config.ack] ∧
          t.result.ending = strictEnding s.strict t.anom []))))

/-- 44_link_transaction.md R106: each arrow of the link state where the rule places it among the accesses of the call: the
frame written, the ACK read started and returned, the head read started, the response read and the ACK written back, or
the way out after an empty head or a PARSE_ERROR. -/
def Obligations.CallPassesTheLinkStates : Prop :=
  ∀ (c : Byte) (a : Bytes) (tmo : Duration) (s t : State),
    a.length + 1 ≤ 254 → s.NoReset 5 → exec (.transact c a tmo) s = .next t →
    t.lstate = .idle ∧
    ∃ (r h : Bytes) (reads tail : List Event),
      t.trace = s.trace ++ [.flush, .tx (buildFrame c a), .link .frameSent, .link .ackAwaited, .rx 6 r,
        .link .ackVerified, .link .responseAwaited, .rx 6 h] ++ reads ++ tail ∧
      (∀ e, e ∈ reads → ∃ n g, e = .rx n g) ∧
      ((tail = [.tx Config.ack, .link .responseParsed, .link .idle] ∧
          ∃ p, t.result.ending = strictEnding s.strict t.anom p) ∨
        (tail = [.link .idle] ∧ (t.result.ending = .noResponse ∨ t.result.ending = .fail .parseError)))

/-- 44_link_transaction.md R115: strict mode changes the result (and its log event) and nothing else. -/
def Obligations.StrictModeChangesTheResultOnly : Prop :=
  ∀ (i : Instr) (s t : State), (i = .parseFrame ∨ ∃ c a tmo, i = .transact c a tmo) → s.NoReset 5 →
    exec i { s with strict := false } = .next t →
    exec i { s with strict := true } = .next
      (if t.result.ending.kindCode = 0 ∧ t.anom ≠ 0 then
        { t with
          strict := true
          log := t.log ++ [.protocolViolation]
          result := { ending := .fail .protocolViolation, anom := t.result.anom } }
      else { t with strict := true })

/-- 42_frame_build.md R83, 44_link_transaction.md R104: the frame of a call is built in TXBUF. That TXBUF keeps it, and that
HEAD keeps the head read, is the model's choice (10_state.md R26; notes/assumptions/19.md). -/
def Obligations.CallLeavesTheBuffers : Prop :=
  ∀ (c : Byte) (a : Bytes) (tmo : Duration) (s t : State),
    a.length + 1 ≤ 254 → s.NoReset 5 → exec (.transact c a tmo) s = .next t →
    t.txbuf = buildFrame c a ∧ (accesses t.trace)[(accesses s.trace).length + 3]? = some (.rx 6 t.head)

/-- 70_reset_and_hazards.md R163 and 45_host_boundary.md R123: a device that entered its wait state is left in it by a call
that ends with `PARSE_ERROR` or `NoResponse`, and is released by every other ending. -/
def Obligations.AbortedCallLeavesTheDeviceWaiting : Prop :=
  ∀ (c : Byte) (a : Bytes) (tmo : Duration) (s t : State),
    a.length + 1 ≤ 254 → s.NoReset 5 → (∀ k, k < 5 → (s.drawAt k).waits = true) →
    exec (.transact c a tmo) s = .next t →
    (t.deviceWait = true ↔ t.result.ending = .noResponse ∨ t.result.ending = .fail .parseError)

/-- 93_implementation_defined.md U6: under a timeout without bound, a device that sends too little leaves the block in a
read that never returns. -/
def Obligations.ReadWithoutBoundNeverReturns : Prop :=
  (∀ s : State, s.timeout = .unbounded → s.NoReset 1 → (s.rx ++ (s.drawAt 0).arrived).length < 6 →
    exec .parseFrame s = .fault .readNeverReturns) ∧
  ∀ (c : Byte) (a : Bytes) (s : State), a.length + 1 ≤ 254 → s.NoReset 2 → (s.drawAt 1).arrived.length < 6 →
    exec (.transact c a .unbounded) s = .fault .readNeverReturns

/-! ### Reset -/

/-- 70_reset_and_hazards.md R157: the listed values after power-on and after the reset input, RX being whatever the channel
holds. A call is abandoned without a result by a reset at its flush, at its ACK read, at its head read, at the read after a
whole head (the body's, or the postamble's for `LEN` 0), and at the postamble read after a whole body; it ends without a
result exactly if the reset input was asserted at an access it made; it is then at the listed values, the bytes already
written staying written. Where a reset can strike, and that unsent bytes outlive it, are the model's choices
(notes/assumptions/11.md, 10.md). -/
def Obligations.ResetTakesTheListedValues : Prop :=
  State.reset.ResetListed ∧
  (∀ (s : State) (rest : List Input), s.inputs = .reset :: rest →
    ∃ t : State, step s = .next t ∧ t.ResetListed ∧ t.rx = s.rx ∧ t.txSent = s.txSent ∧
      t.txUnsent = s.txUnsent ∧ t.inputs = rest) ∧
  ∀ (c : Byte) (a : Bytes) (tmo : Duration) (s : State), a.length + 1 ≤ 254 →
    ((s.drawAt 0).reset = true ∨ (s.drawAt 1).reset = true ∨
        (Bounded tmo ∧ (s.drawAt 2).reset = true) ∨
        (6 ≤ (s.arrivedBy 1).length ∧ 12 ≤ (s.arrivedBy 2).length ∧ (s.drawAt 3).reset = true) ∨
        (6 ≤ (s.arrivedBy 1).length ∧ 12 ≤ (s.arrivedBy 2).length ∧ (s.arrivedBy 2).getD 9 0 ≠ 0 ∧
          12 + ((s.arrivedBy 2).getD 9 0).toNat ≤ (s.arrivedBy 3).length ∧ (s.drawAt 4).reset = true) →
      ∃ t : State, exec (.transact c a tmo) s = .next t ∧ t.readResult = none) ∧
    ∀ t : State, exec (.transact c a tmo) s = .next t →
      (t.readResult = none ↔ s.ResetOnTheWay t) ∧
      (t.readResult = none →
        t.ResetListed ∧
          t.txSent ++ t.txUnsent = s.txSent ++ s.txUnsent.take (s.drawAt 0).sent ++
            if (s.drawAt 0).reset then [] else buildFrame c a)

/-- The same of a PARSE_FRAME (70_reset_and_hazards.md R157 speaks of TRANSACT; that a reset abandons a PARSE_FRAME in the
same way is the model's choice, notes/assumptions/11.md): by a reset at its head read, at the read after a whole head, and at
the postamble read after a whole body. The bytes on their way to the device stay (notes/assumptions/10.md). -/
def Obligations.ResetAbandonsAParse : Prop :=
  ∀ s : State,
    ((s.drawAt 0).reset = true ∨
        (6 ≤ (s.queueAfter 1).length ∧ (s.drawAt 1).reset = true) ∨
        (6 ≤ (s.queueAfter 1).length ∧ (s.queueAfter 1).getD 3 0 ≠ 0 ∧
          6 + ((s.queueAfter 1).getD 3 0).toNat ≤ (s.queueAfter 2).length ∧ (s.drawAt 2).reset = true) →
      ∃ t : State, exec .parseFrame s = .next t ∧ t.readResult = none) ∧
    ∀ t : State, exec .parseFrame s = .next t →
      (t.readResult = none ↔ s.ResetOnTheWay t) ∧
      (t.readResult = none →
        t.ResetListed ∧ t.txSent ++ t.txUnsent = s.txSent ++ s.txUnsent ∧ t.inputs = s.inputs)

/-! ### The wire forms -/

/-- 30_encoding.md R57, R58 and 10_state.md R28: what the device sends while no operation runs waits at the back of RX.
That a response leaves the device waiting is 45_host_boundary.md R123. That the forms are events of the line is the model's
choice (notes/assumptions/3.md). -/
def Obligations.FormsFromTheDeviceArrive : Prop :=
  (∀ (p : Bytes) (s : State), p.length ≤ 254 →
    exec (.frameDeviceToHost p) s = .next { s with
      rx := s.rx ++ ([0x00, 0x00, 0xFF, BitVec.ofNat 8 (p.length + 1),
        BitVec.ofNat 8 (256 - (p.length + 1)), 0xD5] ++ p ++ [dcs 0xD5 p, 0x00])
      deviceWait := true }) ∧
  ∀ s : State, exec (.frameAck .toHost) s =
    .next { s with rx := s.rx ++ [0x00, 0x00, 0xFF, 0x00, 0xFF, 0x00] }

/-- 20_memory.md R47, an inference the spec marks as its own: a form that the block wrote and that is next to be sent
reaches the device behind what the device has received. That the forms are transfers on the line, and that one that is not
there is refused, are the model's choices (notes/assumptions/3.md, 4.md). -/
def Obligations.FormsToTheDeviceAreCarried : Prop :=
  (∀ (c : Byte) (a rest : Bytes) (s : State), a.length + 1 ≤ 254 → s.txUnsent = buildFrame c a ++ rest →
    exec (.frameHostToDevice c a) s = .next { s with
      txUnsent := rest
      txSent := s.txSent ++ buildFrame c a }) ∧
  (∀ (rest : Bytes) (s : State), s.txUnsent = [0x00, 0x00, 0xFF, 0x00, 0xFF, 0x00] ++ rest →
    exec (.frameAck .toDevice) s = .next { s with
      txUnsent := rest
      txSent := s.txSent ++ [0x00, 0x00, 0xFF, 0x00, 0xFF, 0x00] }) ∧
  (∀ (c : Byte) (a : Bytes) (s : State), ¬ (buildFrame c a <+: s.txUnsent) →
    exec (.frameHostToDevice c a) s = .refused .notOnTheLine) ∧
  ∀ s : State, ¬ (Config.ack <+: s.txUnsent) → exec (.frameAck .toDevice) s = .refused .notOnTheLine

/-! ### Steps -/

/-- A step runs the decoded instruction: a request in `IDLE`, with its operands sampled into the latches if it is an
operation (10_state.md R22); a wire form on the line. That a reserved code samples nothing is read from 30_encoding.md R54
(DEDUCED, notes/assumptions/24.md); that bytes on the line are stepped as an instruction is the model's choice
(notes/assumptions/3.md). -/
def Obligations.StepRunsTheDecodedInstruction : Prop :=
  (∀ (s : State) (w : PortWord) (i : Instr) (rest : List Input),
    s.inputs = .present (.port w) :: rest → s.lstate = .idle → decode (.port w) = .ok i →
    step s = exec i { s with inputs := rest, latches := if i.isOperation then w else s.latches }) ∧
  ∀ (s : State) (dir : Direction) (b : Bytes) (i : Instr) (rest : List Input),
    s.inputs = .present (.line dir b) :: rest → decode (.line dir b) = .ok i →
    step s = exec i { s with inputs := rest }

/-- 70_reset_and_hazards.md R160: an operation presented while another is in progress gets no step. -/
def Obligations.RequestOutsideIdleIsRefused : Prop :=
  ∀ (s : State) (w : PortWord) (rest : List Input), s.inputs = .present (.port w) :: rest →
    s.lstate ≠ .idle → step s = .refused .operationInProgress

/-- The other inputs: none (the block waits), the host's setting of STRICT (10_state.md R19), bytes that are no wire form
(30_encoding.md R62) from the device and to it, a request the port cannot carry (R53). That the machine steps without an
input, that bytes which are no form are carried as bytes or refused, and the refusal of the request, are the model's choices
(notes/assumptions/27.md, 25.md, 4.md, 2.md). -/
def Obligations.StepOnTheOtherInputs : Prop :=
  (∀ s : State, s.inputs = [] → step s = .next s) ∧
  (∀ (s : State) (on : Bool) (rest : List Input), s.inputs = .strict on :: rest →
    step s = .next { s with inputs := rest, strict := on }) ∧
  (∀ (s : State) (b : Bytes) (r : Reject) (rest : List Input), s.inputs = .present (.line .toHost b) :: rest →
    decode (.line .toHost b) = .error r → step s = .next { s with inputs := rest, rx := s.rx ++ b }) ∧
  (∀ (s : State) (b more : Bytes) (r : Reject) (rest : List Input),
    s.inputs = .present (.line .toDevice b) :: rest → decode (.line .toDevice b) = .error r →
    s.txUnsent = b ++ more →
    step s = .next { s with inputs := rest, txUnsent := more, txSent := s.txSent ++ b }) ∧
  (∀ (s : State) (b : Bytes) (r : Reject) (rest : List Input),
    s.inputs = .present (.line .toDevice b) :: rest → decode (.line .toDevice b) = .error r →
    ¬ (b <+: s.txUnsent) → step s = .refused .notOnTheLine) ∧
  ∀ (s : State) (w : PortWord) (rest : List Input), s.inputs = .present (.port w) :: rest → s.lstate = .idle →
    65535 < w.din.length → step s = .refused .portCannotCarry

/-! ### The whole machine -/

/-- The invariant holds at reset. -/
def Obligations.ResetHasTheInvariant : Prop := State.reset.Inv

/-- Every step keeps the invariant: `IDLE` between steps, the capacities of the buffers (10_state.md R23 to R25), TX the
concatenation of the writes made, every write a built frame or the ACK (42_frame_build.md R88), every read within its
request (20_memory.md R37), no mark of an operation without a result (60_exceptions.md R134). -/
def Obligations.StepKeepsTheInvariant : Prop :=
  ∀ s t : State, s.Inv → step s = .next t → t.Inv

/-- 10_state.md R14, R15, R17 to R20, R22 to R25, 60_exceptions.md R169: which instruction writes which register. Unless
the reset input interrupts an operation, every other instruction leaves it alone. Which operations use `sum` is the
model's choice (notes/assumptions/20.md). -/
def Obligations.EveryRegisterHasItsWriters : Prop :=
  ∀ (i : Instr) (s t : State), s.NoReset 5 → exec i s = .next t →
    t.strict = s.strict ∧ t.latches = s.latches ∧ t.inputs = s.inputs ∧
    ((∀ d, i ≠ .crcA d) → (∀ d, i ≠ .withCrcA d) → t.crc = s.crc) ∧
    ((∀ c a tmo, i ≠ .transact c a tmo) → t.timeout = s.timeout ∧ t.lstate = s.lstate ∧ t.tx = s.tx) ∧
    ((∀ c a tmo, i ≠ .transact c a tmo) → (∀ c a, i ≠ .buildFrame c a) → t.txbuf = s.txbuf) ∧
    ((∀ c a tmo, i ≠ .transact c a tmo) → i ≠ .parseFrame →
      t.anom = s.anom ∧ t.head = s.head ∧ t.pay = s.pay ∧ t.trace = s.trace ∧ t.draws = s.draws) ∧
    ((∀ c a tmo, i ≠ .transact c a tmo) → i ≠ .parseFrame → (∀ c a, i ≠ .buildFrame c a) →
      (∀ m p, i ≠ .dcs m p) → t.sum = s.sum)

/-- 10_state.md R28, R29: TX, what the device has received, and LOG only ever grow; and the device receives no byte the
block did not write. -/
def Obligations.StreamsOnlyGrow : Prop :=
  ∀ (i : Instr) (s t : State), s.NoReset 5 → exec i s = .next t →
    s.tx <+: t.tx ∧ s.txSent <+: t.txSent ∧ s.log <+: t.log ∧
    ∃ w, t.tx = s.tx ++ w ∧ (t.txSent ++ t.txUnsent).Sublist (s.txSent ++ s.txUnsent ++ w)

/-- 10_state.md R26 and 70_reset_and_hazards.md R159: what an operation leaves behind is read by no later one. Two states
that agree on STRICT, TIMEOUT, RX and the environment give PARSE_FRAME the same result, reads and RX, whatever their
other fields. -/
def Obligations.ParseReadsNoLeftovers : Prop :=
  ∀ (s u t : State), s.NoReset 3 → u.strict = s.strict → u.timeout = s.timeout → u.rx = s.rx →
    u.draws = s.draws → u.drawCount = s.drawCount → exec .parseFrame s = .next t →
    ∃ v : State, exec .parseFrame u = .next v ∧ v.result = t.result ∧ v.rx = t.rx ∧ v.anom = t.anom ∧
      ∃ h l, t.trace = s.trace ++ h ∧ v.trace = u.trace ++ h ∧ t.log = s.log ++ l ∧ v.log = u.log ++ l

/-- 70_reset_and_hazards.md R161 and 44_link_transaction.md R107: a call does not see what an earlier one left, in the
block or in RX. Two states that agree on STRICT and the environment give TRANSACT the same result, channel events and RX,
whatever their other fields, RX among them. -/
def Obligations.CallSeesNothingOfEarlierCalls : Prop :=
  ∀ (c : Byte) (a : Bytes) (tmo : Duration) (s u t : State), a.length + 1 ≤ 254 → s.NoReset 5 →
    u.strict = s.strict → u.draws = s.draws → u.drawCount = s.drawCount →
    exec (.transact c a tmo) s = .next t →
    ∃ v : State, exec (.transact c a tmo) u = .next v ∧ v.result = t.result ∧ v.rx = t.rx ∧ v.anom = t.anom ∧
      ∃ h l, t.trace = s.trace ++ h ∧ v.trace = u.trace ++ h ∧ t.log = s.log ++ l ∧ v.log = u.log ++ l
end

