-- ==== Sys2Proof/Laws/Config.lean ====
section
/-! SUPPORT. What is known of the open parameters. -/

namespace Sys2Proof

/-- The duration so chosen is never the one to be avoided. -/
theorem Duration.apartFrom_ne (t d : Duration) : t.apartFrom d ≠ d := by
  unfold Duration.apartFrom
  split
  · cases d <;> simp
  · assumption

/-- Every duration but the one to be avoided can be chosen. -/
theorem Duration.apartFrom_of_ne (t d : Duration) (h : t ≠ d) : t.apartFrom d = t := if_neg h

/-- The two default timeouts "differ from each other" (00_scope.md R7). -/
theorem Config.defaultTimeouts_differ : Config.defaultTimeoutRaw ≠ Config.defaultTimeoutGeneral :=
  Duration.apartFrom_ne _ _

end Sys2Proof
end

