-- ==== Sys2Proof/Laws/State.lean ====
section
/-! SUPPORT. One lemma for each field of `State` and each update of it: what the field is after the update. All hold by
definition, so that no proof unfolds a record update. -/

namespace Sys2Proof.Machine

variable (s : State)

/-! ### `logEvent` -/

@[simp] theorem logEvent_crc (e : LogEvent) : (s.logEvent e).crc = s.crc := rfl
@[simp] theorem logEvent_sum (e : LogEvent) : (s.logEvent e).sum = s.sum := rfl
@[simp] theorem logEvent_lstate (e : LogEvent) : (s.logEvent e).lstate = s.lstate := rfl
@[simp] theorem logEvent_timeout (e : LogEvent) : (s.logEvent e).timeout = s.timeout := rfl
@[simp] theorem logEvent_strict (e : LogEvent) : (s.logEvent e).strict = s.strict := rfl
@[simp] theorem logEvent_anom (e : LogEvent) : (s.logEvent e).anom = s.anom := rfl
@[simp] theorem logEvent_result (e : LogEvent) : (s.logEvent e).result = s.result := rfl
@[simp] theorem logEvent_resultValid (e : LogEvent) : (s.logEvent e).resultValid = s.resultValid := rfl
@[simp] theorem logEvent_latches (e : LogEvent) : (s.logEvent e).latches = s.latches := rfl
@[simp] theorem logEvent_txbuf (e : LogEvent) : (s.logEvent e).txbuf = s.txbuf := rfl
@[simp] theorem logEvent_head (e : LogEvent) : (s.logEvent e).head = s.head := rfl
@[simp] theorem logEvent_pay (e : LogEvent) : (s.logEvent e).pay = s.pay := rfl
@[simp] theorem logEvent_tx (e : LogEvent) : (s.logEvent e).tx = s.tx := rfl
@[simp] theorem logEvent_txUnsent (e : LogEvent) : (s.logEvent e).txUnsent = s.txUnsent := rfl
@[simp] theorem logEvent_txSent (e : LogEvent) : (s.logEvent e).txSent = s.txSent := rfl
@[simp] theorem logEvent_rx (e : LogEvent) : (s.logEvent e).rx = s.rx := rfl
@[simp] theorem logEvent_log (e : LogEvent) : (s.logEvent e).log = s.log ++ [e] := rfl
@[simp] theorem logEvent_deviceWait (e : LogEvent) : (s.logEvent e).deviceWait = s.deviceWait := rfl
@[simp] theorem logEvent_trace (e : LogEvent) : (s.logEvent e).trace = s.trace := rfl
@[simp] theorem logEvent_inputs (e : LogEvent) : (s.logEvent e).inputs = s.inputs := rfl
@[simp] theorem logEvent_draws (e : LogEvent) : (s.logEvent e).draws = s.draws := rfl
@[simp] theorem logEvent_drawCount (e : LogEvent) : (s.logEvent e).drawCount = s.drawCount := rfl

/-! ### `clearAnom` -/

@[simp] theorem clearAnom_crc : s.clearAnom.crc = s.crc := rfl
@[simp] theorem clearAnom_sum : s.clearAnom.sum = s.sum := rfl
@[simp] theorem clearAnom_lstate : s.clearAnom.lstate = s.lstate := rfl
@[simp] theorem clearAnom_timeout : s.clearAnom.timeout = s.timeout := rfl
@[simp] theorem clearAnom_strict : s.clearAnom.strict = s.strict := rfl
@[simp] theorem clearAnom_anom : s.clearAnom.anom = 0 := rfl
@[simp] theorem clearAnom_result : s.clearAnom.result = s.result := rfl
@[simp] theorem clearAnom_resultValid : s.clearAnom.resultValid = s.resultValid := rfl
@[simp] theorem clearAnom_latches : s.clearAnom.latches = s.latches := rfl
@[simp] theorem clearAnom_txbuf : s.clearAnom.txbuf = s.txbuf := rfl
@[simp] theorem clearAnom_head : s.clearAnom.head = s.head := rfl
@[simp] theorem clearAnom_pay : s.clearAnom.pay = s.pay := rfl
@[simp] theorem clearAnom_tx : s.clearAnom.tx = s.tx := rfl
@[simp] theorem clearAnom_txUnsent : s.clearAnom.txUnsent = s.txUnsent := rfl
@[simp] theorem clearAnom_txSent : s.clearAnom.txSent = s.txSent := rfl
@[simp] theorem clearAnom_rx : s.clearAnom.rx = s.rx := rfl
@[simp] theorem clearAnom_log : s.clearAnom.log = s.log := rfl
@[simp] theorem clearAnom_deviceWait : s.clearAnom.deviceWait = s.deviceWait := rfl
@[simp] theorem clearAnom_trace : s.clearAnom.trace = s.trace := rfl
@[simp] theorem clearAnom_inputs : s.clearAnom.inputs = s.inputs := rfl
@[simp] theorem clearAnom_draws : s.clearAnom.draws = s.draws := rfl
@[simp] theorem clearAnom_drawCount : s.clearAnom.drawCount = s.drawCount := rfl

/-! ### `anomaly` -/

@[simp] theorem anomaly_crc (f : AnomFlag) : (s.anomaly f).crc = s.crc := rfl
@[simp] theorem anomaly_sum (f : AnomFlag) : (s.anomaly f).sum = s.sum := rfl
@[simp] theorem anomaly_lstate (f : AnomFlag) : (s.anomaly f).lstate = s.lstate := rfl
@[simp] theorem anomaly_timeout (f : AnomFlag) : (s.anomaly f).timeout = s.timeout := rfl
@[simp] theorem anomaly_strict (f : AnomFlag) : (s.anomaly f).strict = s.strict := rfl
@[simp] theorem anomaly_anom (f : AnomFlag) : (s.anomaly f).anom = s.anom ||| f.mask := rfl
@[simp] theorem anomaly_result (f : AnomFlag) : (s.anomaly f).result = s.result := rfl
@[simp] theorem anomaly_resultValid (f : AnomFlag) : (s.anomaly f).resultValid = s.resultValid := rfl
@[simp] theorem anomaly_latches (f : AnomFlag) : (s.anomaly f).latches = s.latches := rfl
@[simp] theorem anomaly_txbuf (f : AnomFlag) : (s.anomaly f).txbuf = s.txbuf := rfl
@[simp] theorem anomaly_head (f : AnomFlag) : (s.anomaly f).head = s.head := rfl
@[simp] theorem anomaly_pay (f : AnomFlag) : (s.anomaly f).pay = s.pay := rfl
@[simp] theorem anomaly_tx (f : AnomFlag) : (s.anomaly f).tx = s.tx := rfl
@[simp] theorem anomaly_txUnsent (f : AnomFlag) : (s.anomaly f).txUnsent = s.txUnsent := rfl
@[simp] theorem anomaly_txSent (f : AnomFlag) : (s.anomaly f).txSent = s.txSent := rfl
@[simp] theorem anomaly_rx (f : AnomFlag) : (s.anomaly f).rx = s.rx := rfl
@[simp] theorem anomaly_log (f : AnomFlag) : (s.anomaly f).log = s.log ++ [f.logEvent] := rfl
@[simp] theorem anomaly_deviceWait (f : AnomFlag) : (s.anomaly f).deviceWait = s.deviceWait := rfl
@[simp] theorem anomaly_trace (f : AnomFlag) : (s.anomaly f).trace = s.trace := rfl
@[simp] theorem anomaly_inputs (f : AnomFlag) : (s.anomaly f).inputs = s.inputs := rfl
@[simp] theorem anomaly_draws (f : AnomFlag) : (s.anomaly f).draws = s.draws := rfl
@[simp] theorem anomaly_drawCount (f : AnomFlag) : (s.anomaly f).drawCount = s.drawCount := rfl

/-! ### `runCrc` -/

@[simp] theorem runCrc_crc (d : Bytes) : (s.runCrc d).crc = crcFold Config.crcInit d := rfl
@[simp] theorem runCrc_sum (d : Bytes) : (s.runCrc d).sum = s.sum := rfl
@[simp] theorem runCrc_lstate (d : Bytes) : (s.runCrc d).lstate = s.lstate := rfl
@[simp] theorem runCrc_timeout (d : Bytes) : (s.runCrc d).timeout = s.timeout := rfl
@[simp] theorem runCrc_strict (d : Bytes) : (s.runCrc d).strict = s.strict := rfl
@[simp] theorem runCrc_anom (d : Bytes) : (s.runCrc d).anom = s.anom := rfl
@[simp] theorem runCrc_result (d : Bytes) : (s.runCrc d).result = s.result := rfl
@[simp] theorem runCrc_resultValid (d : Bytes) : (s.runCrc d).resultValid = s.resultValid := rfl
@[simp] theorem runCrc_latches (d : Bytes) : (s.runCrc d).latches = s.latches := rfl
@[simp] theorem runCrc_txbuf (d : Bytes) : (s.runCrc d).txbuf = s.txbuf := rfl
@[simp] theorem runCrc_head (d : Bytes) : (s.runCrc d).head = s.head := rfl
@[simp] theorem runCrc_pay (d : Bytes) : (s.runCrc d).pay = s.pay := rfl
@[simp] theorem runCrc_tx (d : Bytes) : (s.runCrc d).tx = s.tx := rfl
@[simp] theorem runCrc_txUnsent (d : Bytes) : (s.runCrc d).txUnsent = s.txUnsent := rfl
@[simp] theorem runCrc_txSent (d : Bytes) : (s.runCrc d).txSent = s.txSent := rfl
@[simp] theorem runCrc_rx (d : Bytes) : (s.runCrc d).rx = s.rx := rfl
@[simp] theorem runCrc_log (d : Bytes) : (s.runCrc d).log = s.log := rfl
@[simp] theorem runCrc_deviceWait (d : Bytes) : (s.runCrc d).deviceWait = s.deviceWait := rfl
@[simp] theorem runCrc_trace (d : Bytes) : (s.runCrc d).trace = s.trace := rfl
@[simp] theorem runCrc_inputs (d : Bytes) : (s.runCrc d).inputs = s.inputs := rfl
@[simp] theorem runCrc_draws (d : Bytes) : (s.runCrc d).draws = s.draws := rfl
@[simp] theorem runCrc_drawCount (d : Bytes) : (s.runCrc d).drawCount = s.drawCount := rfl

/-! ### `runSum` -/

@[simp] theorem runSum_crc (m : Byte) (p : Bytes) : (s.runSum m p).crc = s.crc := rfl
@[simp] theorem runSum_sum (m : Byte) (p : Bytes) : (s.runSum m p).sum = accumulate m p := rfl
@[simp] theorem runSum_lstate (m : Byte) (p : Bytes) : (s.runSum m p).lstate = s.lstate := rfl
@[simp] theorem runSum_timeout (m : Byte) (p : Bytes) : (s.runSum m p).timeout = s.timeout := rfl
@[simp] theorem runSum_strict (m : Byte) (p : Bytes) : (s.runSum m p).strict = s.strict := rfl
@[simp] theorem runSum_anom (m : Byte) (p : Bytes) : (s.runSum m p).anom = s.anom := rfl
@[simp] theorem runSum_result (m : Byte) (p : Bytes) : (s.runSum m p).result = s.result := rfl
@[simp] theorem runSum_resultValid (m : Byte) (p : Bytes) : (s.runSum m p).resultValid = s.resultValid := rfl
@[simp] theorem runSum_latches (m : Byte) (p : Bytes) : (s.runSum m p).latches = s.latches := rfl
@[simp] theorem runSum_txbuf (m : Byte) (p : Bytes) : (s.runSum m p).txbuf = s.txbuf := rfl
@[simp] theorem runSum_head (m : Byte) (p : Bytes) : (s.runSum m p).head = s.head := rfl
@[simp] theorem runSum_pay (m : Byte) (p : Bytes) : (s.runSum m p).pay = s.pay := rfl
@[simp] theorem runSum_tx (m : Byte) (p : Bytes) : (s.runSum m p).tx = s.tx := rfl
@[simp] theorem runSum_txUnsent (m : Byte) (p : Bytes) : (s.runSum m p).txUnsent = s.txUnsent := rfl
@[simp] theorem runSum_txSent (m : Byte) (p : Bytes) : (s.runSum m p).txSent = s.txSent := rfl
@[simp] theorem runSum_rx (m : Byte) (p : Bytes) : (s.runSum m p).rx = s.rx := rfl
@[simp] theorem runSum_log (m : Byte) (p : Bytes) : (s.runSum m p).log = s.log := rfl
@[simp] theorem runSum_deviceWait (m : Byte) (p : Bytes) : (s.runSum m p).deviceWait = s.deviceWait := rfl
@[simp] theorem runSum_trace (m : Byte) (p : Bytes) : (s.runSum m p).trace = s.trace := rfl
@[simp] theorem runSum_inputs (m : Byte) (p : Bytes) : (s.runSum m p).inputs = s.inputs := rfl
@[simp] theorem runSum_draws (m : Byte) (p : Bytes) : (s.runSum m p).draws = s.draws := rfl
@[simp] theorem runSum_drawCount (m : Byte) (p : Bytes) : (s.runSum m p).drawCount = s.drawCount := rfl

/-! ### `setTimeout` -/

@[simp] theorem setTimeout_crc (d : Duration) : (s.setTimeout d).crc = s.crc := rfl
@[simp] theorem setTimeout_sum (d : Duration) : (s.setTimeout d).sum = s.sum := rfl
@[simp] theorem setTimeout_lstate (d : Duration) : (s.setTimeout d).lstate = s.lstate := rfl
@[simp] theorem setTimeout_timeout (d : Duration) : (s.setTimeout d).timeout = d := rfl
@[simp] theorem setTimeout_strict (d : Duration) : (s.setTimeout d).strict = s.strict := rfl
@[simp] theorem setTimeout_anom (d : Duration) : (s.setTimeout d).anom = s.anom := rfl
@[simp] theorem setTimeout_result (d : Duration) : (s.setTimeout d).result = s.result := rfl
@[simp] theorem setTimeout_resultValid (d : Duration) : (s.setTimeout d).resultValid = s.resultValid := rfl
@[simp] theorem setTimeout_latches (d : Duration) : (s.setTimeout d).latches = s.latches := rfl
@[simp] theorem setTimeout_txbuf (d : Duration) : (s.setTimeout d).txbuf = s.txbuf := rfl
@[simp] theorem setTimeout_head (d : Duration) : (s.setTimeout d).head = s.head := rfl
@[simp] theorem setTimeout_pay (d : Duration) : (s.setTimeout d).pay = s.pay := rfl
@[simp] theorem setTimeout_tx (d : Duration) : (s.setTimeout d).tx = s.tx := rfl
@[simp] theorem setTimeout_txUnsent (d : Duration) : (s.setTimeout d).txUnsent = s.txUnsent := rfl
@[simp] theorem setTimeout_txSent (d : Duration) : (s.setTimeout d).txSent = s.txSent := rfl
@[simp] theorem setTimeout_rx (d : Duration) : (s.setTimeout d).rx = s.rx := rfl
@[simp] theorem setTimeout_log (d : Duration) : (s.setTimeout d).log = s.log := rfl
@[simp] theorem setTimeout_deviceWait (d : Duration) : (s.setTimeout d).deviceWait = s.deviceWait := rfl
@[simp] theorem setTimeout_trace (d : Duration) : (s.setTimeout d).trace = s.trace := rfl
@[simp] theorem setTimeout_inputs (d : Duration) : (s.setTimeout d).inputs = s.inputs := rfl
@[simp] theorem setTimeout_draws (d : Duration) : (s.setTimeout d).draws = s.draws := rfl
@[simp] theorem setTimeout_drawCount (d : Duration) : (s.setTimeout d).drawCount = s.drawCount := rfl

/-! ### `setTxbuf` -/

@[simp] theorem setTxbuf_crc (b : Bytes) : (s.setTxbuf b).crc = s.crc := rfl
@[simp] theorem setTxbuf_sum (b : Bytes) : (s.setTxbuf b).sum = s.sum := rfl
@[simp] theorem setTxbuf_lstate (b : Bytes) : (s.setTxbuf b).lstate = s.lstate := rfl
@[simp] theorem setTxbuf_timeout (b : Bytes) : (s.setTxbuf b).timeout = s.timeout := rfl
@[simp] theorem setTxbuf_strict (b : Bytes) : (s.setTxbuf b).strict = s.strict := rfl
@[simp] theorem setTxbuf_anom (b : Bytes) : (s.setTxbuf b).anom = s.anom := rfl
@[simp] theorem setTxbuf_result (b : Bytes) : (s.setTxbuf b).result = s.result := rfl
@[simp] theorem setTxbuf_resultValid (b : Bytes) : (s.setTxbuf b).resultValid = s.resultValid := rfl
@[simp] theorem setTxbuf_latches (b : Bytes) : (s.setTxbuf b).latches = s.latches := rfl
@[simp] theorem setTxbuf_txbuf (b : Bytes) : (s.setTxbuf b).txbuf = b := rfl
@[simp] theorem setTxbuf_head (b : Bytes) : (s.setTxbuf b).head = s.head := rfl
@[simp] theorem setTxbuf_pay (b : Bytes) : (s.setTxbuf b).pay = s.pay := rfl
@[simp] theorem setTxbuf_tx (b : Bytes) : (s.setTxbuf b).tx = s.tx := rfl
@[simp] theorem setTxbuf_txUnsent (b : Bytes) : (s.setTxbuf b).txUnsent = s.txUnsent := rfl
@[simp] theorem setTxbuf_txSent (b : Bytes) : (s.setTxbuf b).txSent = s.txSent := rfl
@[simp] theorem setTxbuf_rx (b : Bytes) : (s.setTxbuf b).rx = s.rx := rfl
@[simp] theorem setTxbuf_log (b : Bytes) : (s.setTxbuf b).log = s.log := rfl
@[simp] theorem setTxbuf_deviceWait (b : Bytes) : (s.setTxbuf b).deviceWait = s.deviceWait := rfl
@[simp] theorem setTxbuf_trace (b : Bytes) : (s.setTxbuf b).trace = s.trace := rfl
@[simp] theorem setTxbuf_inputs (b : Bytes) : (s.setTxbuf b).inputs = s.inputs := rfl
@[simp] theorem setTxbuf_draws (b : Bytes) : (s.setTxbuf b).draws = s.draws := rfl
@[simp] theorem setTxbuf_drawCount (b : Bytes) : (s.setTxbuf b).drawCount = s.drawCount := rfl

/-! ### `setHead` -/

@[simp] theorem setHead_crc (b : Bytes) : (s.setHead b).crc = s.crc := rfl
@[simp] theorem setHead_sum (b : Bytes) : (s.setHead b).sum = s.sum := rfl
@[simp] theorem setHead_lstate (b : Bytes) : (s.setHead b).lstate = s.lstate := rfl
@[simp] theorem setHead_timeout (b : Bytes) : (s.setHead b).timeout = s.timeout := rfl
@[simp] theorem setHead_strict (b : Bytes) : (s.setHead b).strict = s.strict := rfl
@[simp] theorem setHead_anom (b : Bytes) : (s.setHead b).anom = s.anom := rfl
@[simp] theorem setHead_result (b : Bytes) : (s.setHead b).result = s.result := rfl
@[simp] theorem setHead_resultValid (b : Bytes) : (s.setHead b).resultValid = s.resultValid := rfl
@[simp] theorem setHead_latches (b : Bytes) : (s.setHead b).latches = s.latches := rfl
@[simp] theorem setHead_txbuf (b : Bytes) : (s.setHead b).txbuf = s.txbuf := rfl
@[simp] theorem setHead_head (b : Bytes) : (s.setHead b).head = b := rfl
@[simp] theorem setHead_pay (b : Bytes) : (s.setHead b).pay = s.pay := rfl
@[simp] theorem setHead_tx (b : Bytes) : (s.setHead b).tx = s.tx := rfl
@[simp] theorem setHead_txUnsent (b : Bytes) : (s.setHead b).txUnsent = s.txUnsent := rfl
@[simp] theorem setHead_txSent (b : Bytes) : (s.setHead b).txSent = s.txSent := rfl
@[simp] theorem setHead_rx (b : Bytes) : (s.setHead b).rx = s.rx := rfl
@[simp] theorem setHead_log (b : Bytes) : (s.setHead b).log = s.log := rfl
@[simp] theorem setHead_deviceWait (b : Bytes) : (s.setHead b).deviceWait = s.deviceWait := rfl
@[simp] theorem setHead_trace (b : Bytes) : (s.setHead b).trace = s.trace := rfl
@[simp] theorem setHead_inputs (b : Bytes) : (s.setHead b).inputs = s.inputs := rfl
@[simp] theorem setHead_draws (b : Bytes) : (s.setHead b).draws = s.draws := rfl
@[simp] theorem setHead_drawCount (b : Bytes) : (s.setHead b).drawCount = s.drawCount := rfl

/-! ### `setPay` -/

@[simp] theorem setPay_crc (b : Bytes) : (s.setPay b).crc = s.crc := rfl
@[simp] theorem setPay_sum (b : Bytes) : (s.setPay b).sum = s.sum := rfl
@[simp] theorem setPay_lstate (b : Bytes) : (s.setPay b).lstate = s.lstate := rfl
@[simp] theorem setPay_timeout (b : Bytes) : (s.setPay b).timeout = s.timeout := rfl
@[simp] theorem setPay_strict (b : Bytes) : (s.setPay b).strict = s.strict := rfl
@[simp] theorem setPay_anom (b : Bytes) : (s.setPay b).anom = s.anom := rfl
@[simp] theorem setPay_result (b : Bytes) : (s.setPay b).result = s.result := rfl
@[simp] theorem setPay_resultValid (b : Bytes) : (s.setPay b).resultValid = s.resultValid := rfl
@[simp] theorem setPay_latches (b : Bytes) : (s.setPay b).latches = s.latches := rfl
@[simp] theorem setPay_txbuf (b : Bytes) : (s.setPay b).txbuf = s.txbuf := rfl
@[simp] theorem setPay_head (b : Bytes) : (s.setPay b).head = s.head := rfl
@[simp] theorem setPay_pay (b : Bytes) : (s.setPay b).pay = b := rfl
@[simp] theorem setPay_tx (b : Bytes) : (s.setPay b).tx = s.tx := rfl
@[simp] theorem setPay_txUnsent (b : Bytes) : (s.setPay b).txUnsent = s.txUnsent := rfl
@[simp] theorem setPay_txSent (b : Bytes) : (s.setPay b).txSent = s.txSent := rfl
@[simp] theorem setPay_rx (b : Bytes) : (s.setPay b).rx = s.rx := rfl
@[simp] theorem setPay_log (b : Bytes) : (s.setPay b).log = s.log := rfl
@[simp] theorem setPay_deviceWait (b : Bytes) : (s.setPay b).deviceWait = s.deviceWait := rfl
@[simp] theorem setPay_trace (b : Bytes) : (s.setPay b).trace = s.trace := rfl
@[simp] theorem setPay_inputs (b : Bytes) : (s.setPay b).inputs = s.inputs := rfl
@[simp] theorem setPay_draws (b : Bytes) : (s.setPay b).draws = s.draws := rfl
@[simp] theorem setPay_drawCount (b : Bytes) : (s.setPay b).drawCount = s.drawCount := rfl

/-! ### `setLink` -/

@[simp] theorem setLink_crc (l : LinkState) : (s.setLink l).crc = s.crc := rfl
@[simp] theorem setLink_sum (l : LinkState) : (s.setLink l).sum = s.sum := rfl
@[simp] theorem setLink_lstate (l : LinkState) : (s.setLink l).lstate = l := rfl
@[simp] theorem setLink_timeout (l : LinkState) : (s.setLink l).timeout = s.timeout := rfl
@[simp] theorem setLink_strict (l : LinkState) : (s.setLink l).strict = s.strict := rfl
@[simp] theorem setLink_anom (l : LinkState) : (s.setLink l).anom = s.anom := rfl
@[simp] theorem setLink_result (l : LinkState) : (s.setLink l).result = s.result := rfl
@[simp] theorem setLink_resultValid (l : LinkState) : (s.setLink l).resultValid = s.resultValid := rfl
@[simp] theorem setLink_latches (l : LinkState) : (s.setLink l).latches = s.latches := rfl
@[simp] theorem setLink_txbuf (l : LinkState) : (s.setLink l).txbuf = s.txbuf := rfl
@[simp] theorem setLink_head (l : LinkState) : (s.setLink l).head = s.head := rfl
@[simp] theorem setLink_pay (l : LinkState) : (s.setLink l).pay = s.pay := rfl
@[simp] theorem setLink_tx (l : LinkState) : (s.setLink l).tx = s.tx := rfl
@[simp] theorem setLink_txUnsent (l : LinkState) : (s.setLink l).txUnsent = s.txUnsent := rfl
@[simp] theorem setLink_txSent (l : LinkState) : (s.setLink l).txSent = s.txSent := rfl
@[simp] theorem setLink_rx (l : LinkState) : (s.setLink l).rx = s.rx := rfl
@[simp] theorem setLink_log (l : LinkState) : (s.setLink l).log = s.log := rfl
@[simp] theorem setLink_deviceWait (l : LinkState) : (s.setLink l).deviceWait = s.deviceWait := rfl
@[simp] theorem setLink_trace (l : LinkState) : (s.setLink l).trace = s.trace ++ [.link l] := rfl
@[simp] theorem setLink_inputs (l : LinkState) : (s.setLink l).inputs = s.inputs := rfl
@[simp] theorem setLink_draws (l : LinkState) : (s.setLink l).draws = s.draws := rfl
@[simp] theorem setLink_drawCount (l : LinkState) : (s.setLink l).drawCount = s.drawCount := rfl

/-! ### `buildTx` -/

@[simp] theorem buildTx_crc (c : Byte) (a : Bytes) : (s.buildTx c a).crc = s.crc := rfl
@[simp] theorem buildTx_sum (c : Byte) (a : Bytes) :
    (s.buildTx c a).sum = accumulate Config.hostMarker (c :: a) := rfl
@[simp] theorem buildTx_lstate (c : Byte) (a : Bytes) : (s.buildTx c a).lstate = s.lstate := rfl
@[simp] theorem buildTx_timeout (c : Byte) (a : Bytes) : (s.buildTx c a).timeout = s.timeout := rfl
@[simp] theorem buildTx_strict (c : Byte) (a : Bytes) : (s.buildTx c a).strict = s.strict := rfl
@[simp] theorem buildTx_anom (c : Byte) (a : Bytes) : (s.buildTx c a).anom = s.anom := rfl
@[simp] theorem buildTx_result (c : Byte) (a : Bytes) : (s.buildTx c a).result = s.result := rfl
@[simp] theorem buildTx_resultValid (c : Byte) (a : Bytes) : (s.buildTx c a).resultValid = s.resultValid := rfl
@[simp] theorem buildTx_latches (c : Byte) (a : Bytes) : (s.buildTx c a).latches = s.latches := rfl
@[simp] theorem buildTx_txbuf (c : Byte) (a : Bytes) : (s.buildTx c a).txbuf = buildFrame c a := rfl
@[simp] theorem buildTx_head (c : Byte) (a : Bytes) : (s.buildTx c a).head = s.head := rfl
@[simp] theorem buildTx_pay (c : Byte) (a : Bytes) : (s.buildTx c a).pay = s.pay := rfl
@[simp] theorem buildTx_tx (c : Byte) (a : Bytes) : (s.buildTx c a).tx = s.tx := rfl
@[simp] theorem buildTx_txUnsent (c : Byte) (a : Bytes) : (s.buildTx c a).txUnsent = s.txUnsent := rfl
@[simp] theorem buildTx_txSent (c : Byte) (a : Bytes) : (s.buildTx c a).txSent = s.txSent := rfl
@[simp] theorem buildTx_rx (c : Byte) (a : Bytes) : (s.buildTx c a).rx = s.rx := rfl
@[simp] theorem buildTx_log (c : Byte) (a : Bytes) : (s.buildTx c a).log = s.log := rfl
@[simp] theorem buildTx_deviceWait (c : Byte) (a : Bytes) : (s.buildTx c a).deviceWait = s.deviceWait := rfl
@[simp] theorem buildTx_trace (c : Byte) (a : Bytes) : (s.buildTx c a).trace = s.trace := rfl
@[simp] theorem buildTx_inputs (c : Byte) (a : Bytes) : (s.buildTx c a).inputs = s.inputs := rfl
@[simp] theorem buildTx_draws (c : Byte) (a : Bytes) : (s.buildTx c a).draws = s.draws := rfl
@[simp] theorem buildTx_drawCount (c : Byte) (a : Bytes) : (s.buildTx c a).drawCount = s.drawCount := rfl

/-! ### `setResult` -/

@[simp] theorem setResult_crc (e : Ending) : (s.setResult e).crc = s.crc := rfl
@[simp] theorem setResult_sum (e : Ending) : (s.setResult e).sum = s.sum := rfl
@[simp] theorem setResult_lstate (e : Ending) : (s.setResult e).lstate = s.lstate := rfl
@[simp] theorem setResult_timeout (e : Ending) : (s.setResult e).timeout = s.timeout := rfl
@[simp] theorem setResult_strict (e : Ending) : (s.setResult e).strict = s.strict := rfl
@[simp] theorem setResult_anom (e : Ending) : (s.setResult e).anom = s.anom := rfl
@[simp] theorem setResult_result (e : Ending) : (s.setResult e).result = { ending := e, anom := s.anom } := rfl
@[simp] theorem setResult_resultValid (e : Ending) : (s.setResult e).resultValid = true := rfl
@[simp] theorem setResult_latches (e : Ending) : (s.setResult e).latches = s.latches := rfl
@[simp] theorem setResult_txbuf (e : Ending) : (s.setResult e).txbuf = s.txbuf := rfl
@[simp] theorem setResult_head (e : Ending) : (s.setResult e).head = s.head := rfl
@[simp] theorem setResult_pay (e : Ending) : (s.setResult e).pay = s.pay := rfl
@[simp] theorem setResult_tx (e : Ending) : (s.setResult e).tx = s.tx := rfl
@[simp] theorem setResult_txUnsent (e : Ending) : (s.setResult e).txUnsent = s.txUnsent := rfl
@[simp] theorem setResult_txSent (e : Ending) : (s.setResult e).txSent = s.txSent := rfl
@[simp] theorem setResult_rx (e : Ending) : (s.setResult e).rx = s.rx := rfl
@[simp] theorem setResult_log (e : Ending) : (s.setResult e).log = s.log := rfl
@[simp] theorem setResult_deviceWait (e : Ending) : (s.setResult e).deviceWait = s.deviceWait := rfl
@[simp] theorem setResult_trace (e : Ending) : (s.setResult e).trace = s.trace := rfl
@[simp] theorem setResult_inputs (e : Ending) : (s.setResult e).inputs = s.inputs := rfl
@[simp] theorem setResult_draws (e : Ending) : (s.setResult e).draws = s.draws := rfl
@[simp] theorem setResult_drawCount (e : Ending) : (s.setResult e).drawCount = s.drawCount := rfl

/-! ### `failWith` -/

@[simp] theorem failWith_crc (r : Reason) : (s.failWith r).crc = s.crc := rfl
@[simp] theorem failWith_sum (r : Reason) : (s.failWith r).sum = s.sum := rfl
@[simp] theorem failWith_lstate (r : Reason) : (s.failWith r).lstate = s.lstate := rfl
@[simp] theorem failWith_timeout (r : Reason) : (s.failWith r).timeout = s.timeout := rfl
@[simp] theorem failWith_strict (r : Reason) : (s.failWith r).strict = s.strict := rfl
@[simp] theorem failWith_anom (r : Reason) : (s.failWith r).anom = s.anom := rfl
@[simp] theorem failWith_result (r : Reason) : (s.failWith r).result = { ending := .fail r, anom := s.anom } := rfl
@[simp] theorem failWith_resultValid (r : Reason) : (s.failWith r).resultValid = true := rfl
@[simp] theorem failWith_latches (r : Reason) : (s.failWith r).latches = s.latches := rfl
@[simp] theorem failWith_txbuf (r : Reason) : (s.failWith r).txbuf = s.txbuf := rfl
@[simp] theorem failWith_head (r : Reason) : (s.failWith r).head = s.head := rfl
@[simp] theorem failWith_pay (r : Reason) : (s.failWith r).pay = s.pay := rfl
@[simp] theorem failWith_tx (r : Reason) : (s.failWith r).tx = s.tx := rfl
@[simp] theorem failWith_txUnsent (r : Reason) : (s.failWith r).txUnsent = s.txUnsent := rfl
@[simp] theorem failWith_txSent (r : Reason) : (s.failWith r).txSent = s.txSent := rfl
@[simp] theorem failWith_rx (r : Reason) : (s.failWith r).rx = s.rx := rfl
@[simp] theorem failWith_log (r : Reason) : (s.failWith r).log = s.log ++ [r.logEvent] := rfl
@[simp] theorem failWith_deviceWait (r : Reason) : (s.failWith r).deviceWait = s.deviceWait := rfl
@[simp] theorem failWith_trace (r : Reason) : (s.failWith r).trace = s.trace := rfl
@[simp] theorem failWith_inputs (r : Reason) : (s.failWith r).inputs = s.inputs := rfl
@[simp] theorem failWith_draws (r : Reason) : (s.failWith r).draws = s.draws := rfl
@[simp] theorem failWith_drawCount (r : Reason) : (s.failWith r).drawCount = s.drawCount := rfl

/-! ### `failCall` -/

@[simp] theorem failCall_crc (r : Reason) : (s.failCall r).crc = s.crc := rfl
@[simp] theorem failCall_sum (r : Reason) : (s.failCall r).sum = s.sum := rfl
@[simp] theorem failCall_lstate (r : Reason) : (s.failCall r).lstate = .idle := rfl
@[simp] theorem failCall_timeout (r : Reason) : (s.failCall r).timeout = s.timeout := rfl
@[simp] theorem failCall_strict (r : Reason) : (s.failCall r).strict = s.strict := rfl
@[simp] theorem failCall_anom (r : Reason) : (s.failCall r).anom = s.anom := rfl
@[simp] theorem failCall_result (r : Reason) : (s.failCall r).result = { ending := .fail r, anom := s.anom } := rfl
@[simp] theorem failCall_resultValid (r : Reason) : (s.failCall r).resultValid = true := rfl
@[simp] theorem failCall_latches (r : Reason) : (s.failCall r).latches = s.latches := rfl
@[simp] theorem failCall_txbuf (r : Reason) : (s.failCall r).txbuf = s.txbuf := rfl
@[simp] theorem failCall_head (r : Reason) : (s.failCall r).head = s.head := rfl
@[simp] theorem failCall_pay (r : Reason) : (s.failCall r).pay = s.pay := rfl
@[simp] theorem failCall_tx (r : Reason) : (s.failCall r).tx = s.tx := rfl
@[simp] theorem failCall_txUnsent (r : Reason) : (s.failCall r).txUnsent = s.txUnsent := rfl
@[simp] theorem failCall_txSent (r : Reason) : (s.failCall r).txSent = s.txSent := rfl
@[simp] theorem failCall_rx (r : Reason) : (s.failCall r).rx = s.rx := rfl
@[simp] theorem failCall_log (r : Reason) : (s.failCall r).log = s.log ++ [r.logEvent] := rfl
@[simp] theorem failCall_deviceWait (r : Reason) : (s.failCall r).deviceWait = s.deviceWait := rfl
@[simp] theorem failCall_trace (r : Reason) : (s.failCall r).trace = s.trace ++ [.link .idle] := rfl
@[simp] theorem failCall_inputs (r : Reason) : (s.failCall r).inputs = s.inputs := rfl
@[simp] theorem failCall_draws (r : Reason) : (s.failCall r).draws = s.draws := rfl
@[simp] theorem failCall_drawCount (r : Reason) : (s.failCall r).drawCount = s.drawCount := rfl

/-! ### `environment` -/

@[simp] theorem environment_crc : s.environment.crc = s.crc := rfl
@[simp] theorem environment_sum : s.environment.sum = s.sum := rfl
@[simp] theorem environment_lstate : s.environment.lstate = s.lstate := rfl
@[simp] theorem environment_timeout : s.environment.timeout = s.timeout := rfl
@[simp] theorem environment_strict : s.environment.strict = s.strict := rfl
@[simp] theorem environment_anom : s.environment.anom = s.anom := rfl
@[simp] theorem environment_result : s.environment.result = s.result := rfl
@[simp] theorem environment_resultValid : s.environment.resultValid = s.resultValid := rfl
@[simp] theorem environment_latches : s.environment.latches = s.latches := rfl
@[simp] theorem environment_txbuf : s.environment.txbuf = s.txbuf := rfl
@[simp] theorem environment_head : s.environment.head = s.head := rfl
@[simp] theorem environment_pay : s.environment.pay = s.pay := rfl
@[simp] theorem environment_tx : s.environment.tx = s.tx := rfl
@[simp] theorem environment_txUnsent : s.environment.txUnsent = s.txUnsent.drop s.nextDraw.sent := rfl
@[simp] theorem environment_txSent : s.environment.txSent = s.txSent ++ s.txUnsent.take s.nextDraw.sent := rfl
@[simp] theorem environment_rx : s.environment.rx = s.rx ++ s.nextDraw.arrived := rfl
@[simp] theorem environment_log : s.environment.log = s.log := rfl
@[simp] theorem environment_deviceWait : s.environment.deviceWait = s.nextDraw.waits := rfl
@[simp] theorem environment_trace : s.environment.trace = s.trace := rfl
@[simp] theorem environment_inputs : s.environment.inputs = s.inputs := rfl
@[simp] theorem environment_draws : s.environment.draws = s.draws.tail := rfl
@[simp] theorem environment_drawCount : s.environment.drawCount = s.drawCount + 1 := rfl

/-! ### `txWrite` -/

@[simp] theorem txWrite_crc (b : Bytes) : (s.txWrite b).crc = s.crc := rfl
@[simp] theorem txWrite_sum (b : Bytes) : (s.txWrite b).sum = s.sum := rfl
@[simp] theorem txWrite_lstate (b : Bytes) : (s.txWrite b).lstate = s.lstate := rfl
@[simp] theorem txWrite_timeout (b : Bytes) : (s.txWrite b).timeout = s.timeout := rfl
@[simp] theorem txWrite_strict (b : Bytes) : (s.txWrite b).strict = s.strict := rfl
@[simp] theorem txWrite_anom (b : Bytes) : (s.txWrite b).anom = s.anom := rfl
@[simp] theorem txWrite_result (b : Bytes) : (s.txWrite b).result = s.result := rfl
@[simp] theorem txWrite_resultValid (b : Bytes) : (s.txWrite b).resultValid = s.resultValid := rfl
@[simp] theorem txWrite_latches (b : Bytes) : (s.txWrite b).latches = s.latches := rfl
@[simp] theorem txWrite_txbuf (b : Bytes) : (s.txWrite b).txbuf = s.txbuf := rfl
@[simp] theorem txWrite_head (b : Bytes) : (s.txWrite b).head = s.head := rfl
@[simp] theorem txWrite_pay (b : Bytes) : (s.txWrite b).pay = s.pay := rfl
@[simp] theorem txWrite_tx (b : Bytes) : (s.txWrite b).tx = s.tx ++ b := rfl
@[simp] theorem txWrite_txUnsent (b : Bytes) : (s.txWrite b).txUnsent = s.txUnsent ++ b := rfl
@[simp] theorem txWrite_txSent (b : Bytes) : (s.txWrite b).txSent = s.txSent := rfl
@[simp] theorem txWrite_rx (b : Bytes) : (s.txWrite b).rx = s.rx := rfl
@[simp] theorem txWrite_log (b : Bytes) : (s.txWrite b).log = s.log := rfl
@[simp] theorem txWrite_deviceWait (b : Bytes) : (s.txWrite b).deviceWait = s.deviceWait := rfl
@[simp] theorem txWrite_trace (b : Bytes) : (s.txWrite b).trace = s.trace ++ [.tx b] := rfl
@[simp] theorem txWrite_inputs (b : Bytes) : (s.txWrite b).inputs = s.inputs := rfl
@[simp] theorem txWrite_draws (b : Bytes) : (s.txWrite b).draws = s.draws := rfl
@[simp] theorem txWrite_drawCount (b : Bytes) : (s.txWrite b).drawCount = s.drawCount := rfl

/-! ### `txWriteAck` -/

@[simp] theorem txWriteAck_crc : s.txWriteAck.crc = s.crc := rfl
@[simp] theorem txWriteAck_sum : s.txWriteAck.sum = s.sum := rfl
@[simp] theorem txWriteAck_lstate : s.txWriteAck.lstate = s.lstate := rfl
@[simp] theorem txWriteAck_timeout : s.txWriteAck.timeout = s.timeout := rfl
@[simp] theorem txWriteAck_strict : s.txWriteAck.strict = s.strict := rfl
@[simp] theorem txWriteAck_anom : s.txWriteAck.anom = s.anom := rfl
@[simp] theorem txWriteAck_result : s.txWriteAck.result = s.result := rfl
@[simp] theorem txWriteAck_resultValid : s.txWriteAck.resultValid = s.resultValid := rfl
@[simp] theorem txWriteAck_latches : s.txWriteAck.latches = s.latches := rfl
@[simp] theorem txWriteAck_txbuf : s.txWriteAck.txbuf = s.txbuf := rfl
@[simp] theorem txWriteAck_head : s.txWriteAck.head = s.head := rfl
@[simp] theorem txWriteAck_pay : s.txWriteAck.pay = s.pay := rfl
@[simp] theorem txWriteAck_tx : s.txWriteAck.tx = s.tx ++ Config.ack := rfl
@[simp] theorem txWriteAck_txUnsent : s.txWriteAck.txUnsent = s.txUnsent ++ Config.ack := rfl
@[simp] theorem txWriteAck_txSent : s.txWriteAck.txSent = s.txSent := rfl
@[simp] theorem txWriteAck_rx : s.txWriteAck.rx = s.rx := rfl
@[simp] theorem txWriteAck_log : s.txWriteAck.log = s.log := rfl
@[simp] theorem txWriteAck_deviceWait : s.txWriteAck.deviceWait = false := rfl
@[simp] theorem txWriteAck_trace : s.txWriteAck.trace = s.trace ++ [.tx Config.ack] := rfl
@[simp] theorem txWriteAck_inputs : s.txWriteAck.inputs = s.inputs := rfl
@[simp] theorem txWriteAck_draws : s.txWriteAck.draws = s.draws := rfl
@[simp] theorem txWriteAck_drawCount : s.txWriteAck.drawCount = s.drawCount := rfl

/-! ### `flush` -/

@[simp] theorem flush_crc : s.flush.crc = s.crc := rfl
@[simp] theorem flush_sum : s.flush.sum = s.sum := rfl
@[simp] theorem flush_lstate : s.flush.lstate = s.lstate := rfl
@[simp] theorem flush_timeout : s.flush.timeout = s.timeout := rfl
@[simp] theorem flush_strict : s.flush.strict = s.strict := rfl
@[simp] theorem flush_anom : s.flush.anom = s.anom := rfl
@[simp] theorem flush_result : s.flush.result = s.result := rfl
@[simp] theorem flush_resultValid : s.flush.resultValid = s.resultValid := rfl
@[simp] theorem flush_latches : s.flush.latches = s.latches := rfl
@[simp] theorem flush_txbuf : s.flush.txbuf = s.txbuf := rfl
@[simp] theorem flush_head : s.flush.head = s.head := rfl
@[simp] theorem flush_pay : s.flush.pay = s.pay := rfl
@[simp] theorem flush_tx : s.flush.tx = s.tx := rfl
@[simp] theorem flush_txUnsent : s.flush.txUnsent = [] := rfl
@[simp] theorem flush_txSent : s.flush.txSent = s.txSent ++ s.txUnsent.take s.nextDraw.sent := rfl
@[simp] theorem flush_rx : s.flush.rx = [] := rfl
@[simp] theorem flush_log : s.flush.log = s.log := rfl
@[simp] theorem flush_deviceWait : s.flush.deviceWait = s.nextDraw.waits := rfl
@[simp] theorem flush_trace : s.flush.trace = s.trace ++ [.flush] := rfl
@[simp] theorem flush_inputs : s.flush.inputs = s.inputs := rfl
@[simp] theorem flush_draws : s.flush.draws = s.draws.tail := rfl
@[simp] theorem flush_drawCount : s.flush.drawCount = s.drawCount + 1 := rfl

/-! ### `arrive` -/

@[simp] theorem arrive_crc (b : Bytes) : (s.arrive b).crc = s.crc := rfl
@[simp] theorem arrive_sum (b : Bytes) : (s.arrive b).sum = s.sum := rfl
@[simp] theorem arrive_lstate (b : Bytes) : (s.arrive b).lstate = s.lstate := rfl
@[simp] theorem arrive_timeout (b : Bytes) : (s.arrive b).timeout = s.timeout := rfl
@[simp] theorem arrive_strict (b : Bytes) : (s.arrive b).strict = s.strict := rfl
@[simp] theorem arrive_anom (b : Bytes) : (s.arrive b).anom = s.anom := rfl
@[simp] theorem arrive_result (b : Bytes) : (s.arrive b).result = s.result := rfl
@[simp] theorem arrive_resultValid (b : Bytes) : (s.arrive b).resultValid = s.resultValid := rfl
@[simp] theorem arrive_latches (b : Bytes) : (s.arrive b).latches = s.latches := rfl
@[simp] theorem arrive_txbuf (b : Bytes) : (s.arrive b).txbuf = s.txbuf := rfl
@[simp] theorem arrive_head (b : Bytes) : (s.arrive b).head = s.head := rfl
@[simp] theorem arrive_pay (b : Bytes) : (s.arrive b).pay = s.pay := rfl
@[simp] theorem arrive_tx (b : Bytes) : (s.arrive b).tx = s.tx := rfl
@[simp] theorem arrive_txUnsent (b : Bytes) : (s.arrive b).txUnsent = s.txUnsent := rfl
@[simp] theorem arrive_txSent (b : Bytes) : (s.arrive b).txSent = s.txSent := rfl
@[simp] theorem arrive_rx (b : Bytes) : (s.arrive b).rx = s.rx ++ b := rfl
@[simp] theorem arrive_log (b : Bytes) : (s.arrive b).log = s.log := rfl
@[simp] theorem arrive_deviceWait (b : Bytes) : (s.arrive b).deviceWait = s.deviceWait := rfl
@[simp] theorem arrive_trace (b : Bytes) : (s.arrive b).trace = s.trace := rfl
@[simp] theorem arrive_inputs (b : Bytes) : (s.arrive b).inputs = s.inputs := rfl
@[simp] theorem arrive_draws (b : Bytes) : (s.arrive b).draws = s.draws := rfl
@[simp] theorem arrive_drawCount (b : Bytes) : (s.arrive b).drawCount = s.drawCount := rfl

/-! ### `resetBlock` -/

@[simp] theorem resetBlock_crc : s.resetBlock.crc = 0x6363 := rfl
@[simp] theorem resetBlock_sum : s.resetBlock.sum = 0 := rfl
@[simp] theorem resetBlock_lstate : s.resetBlock.lstate = .idle := rfl
@[simp] theorem resetBlock_timeout : s.resetBlock.timeout = .finite 1 := rfl
@[simp] theorem resetBlock_strict : s.resetBlock.strict = false := rfl
@[simp] theorem resetBlock_anom : s.resetBlock.anom = 0 := rfl
@[simp] theorem resetBlock_result : s.resetBlock.result = { ending := .noResponse, anom := 0 } := rfl
@[simp] theorem resetBlock_resultValid : s.resetBlock.resultValid = false := rfl
@[simp] theorem resetBlock_latches : s.resetBlock.latches = State.reset.latches := rfl
@[simp] theorem resetBlock_txbuf : s.resetBlock.txbuf = [] := rfl
@[simp] theorem resetBlock_head : s.resetBlock.head = [] := rfl
@[simp] theorem resetBlock_pay : s.resetBlock.pay = [] := rfl
@[simp] theorem resetBlock_tx : s.resetBlock.tx = [] := rfl
@[simp] theorem resetBlock_txUnsent : s.resetBlock.txUnsent = s.txUnsent := rfl
@[simp] theorem resetBlock_txSent : s.resetBlock.txSent = s.txSent := rfl
@[simp] theorem resetBlock_rx : s.resetBlock.rx = s.rx := rfl
@[simp] theorem resetBlock_log : s.resetBlock.log = [] := rfl
@[simp] theorem resetBlock_deviceWait : s.resetBlock.deviceWait = s.deviceWait := rfl
@[simp] theorem resetBlock_trace : s.resetBlock.trace = [] := rfl
@[simp] theorem resetBlock_inputs : s.resetBlock.inputs = s.inputs := rfl
@[simp] theorem resetBlock_draws : s.resetBlock.draws = s.draws := rfl
@[simp] theorem resetBlock_drawCount : s.resetBlock.drawCount = s.drawCount := rfl

/-! ### `takeRx` -/

@[simp] theorem takeRx_crc (n k : Nat) : (s.takeRx n k).crc = s.crc := rfl
@[simp] theorem takeRx_sum (n k : Nat) : (s.takeRx n k).sum = s.sum := rfl
@[simp] theorem takeRx_lstate (n k : Nat) : (s.takeRx n k).lstate = s.lstate := rfl
@[simp] theorem takeRx_timeout (n k : Nat) : (s.takeRx n k).timeout = s.timeout := rfl
@[simp] theorem takeRx_strict (n k : Nat) : (s.takeRx n k).strict = s.strict := rfl
@[simp] theorem takeRx_anom (n k : Nat) : (s.takeRx n k).anom = s.anom := rfl
@[simp] theorem takeRx_result (n k : Nat) : (s.takeRx n k).result = s.result := rfl
@[simp] theorem takeRx_resultValid (n k : Nat) : (s.takeRx n k).resultValid = s.resultValid := rfl
@[simp] theorem takeRx_latches (n k : Nat) : (s.takeRx n k).latches = s.latches := rfl
@[simp] theorem takeRx_txbuf (n k : Nat) : (s.takeRx n k).txbuf = s.txbuf := rfl
@[simp] theorem takeRx_head (n k : Nat) : (s.takeRx n k).head = s.head := rfl
@[simp] theorem takeRx_pay (n k : Nat) : (s.takeRx n k).pay = s.pay := rfl
@[simp] theorem takeRx_tx (n k : Nat) : (s.takeRx n k).tx = s.tx := rfl
@[simp] theorem takeRx_txUnsent (n k : Nat) : (s.takeRx n k).txUnsent = s.txUnsent.drop s.nextDraw.sent := rfl
@[simp] theorem takeRx_txSent (n k : Nat) : (s.takeRx n k).txSent = s.txSent ++ s.txUnsent.take s.nextDraw.sent := rfl
@[simp] theorem takeRx_rx (n k : Nat) : (s.takeRx n k).rx = s.queued.drop k := rfl
@[simp] theorem takeRx_log (n k : Nat) : (s.takeRx n k).log = s.log := rfl
@[simp] theorem takeRx_deviceWait (n k : Nat) : (s.takeRx n k).deviceWait = s.nextDraw.waits := rfl
@[simp] theorem takeRx_trace (n k : Nat) : (s.takeRx n k).trace = s.trace ++ [.rx n (s.queued.take k)] := rfl
@[simp] theorem takeRx_inputs (n k : Nat) : (s.takeRx n k).inputs = s.inputs := rfl
@[simp] theorem takeRx_draws (n k : Nat) : (s.takeRx n k).draws = s.draws.tail := rfl
@[simp] theorem takeRx_drawCount (n k : Nat) : (s.takeRx n k).drawCount = s.drawCount + 1 := rfl

/-! ### `dropRx` -/

@[simp] theorem dropRx_crc (k : Nat) : (s.dropRx k).crc = s.crc := rfl
@[simp] theorem dropRx_sum (k : Nat) : (s.dropRx k).sum = s.sum := rfl
@[simp] theorem dropRx_lstate (k : Nat) : (s.dropRx k).lstate = s.lstate := rfl
@[simp] theorem dropRx_timeout (k : Nat) : (s.dropRx k).timeout = s.timeout := rfl
@[simp] theorem dropRx_strict (k : Nat) : (s.dropRx k).strict = s.strict := rfl
@[simp] theorem dropRx_anom (k : Nat) : (s.dropRx k).anom = s.anom := rfl
@[simp] theorem dropRx_result (k : Nat) : (s.dropRx k).result = s.result := rfl
@[simp] theorem dropRx_resultValid (k : Nat) : (s.dropRx k).resultValid = s.resultValid := rfl
@[simp] theorem dropRx_latches (k : Nat) : (s.dropRx k).latches = s.latches := rfl
@[simp] theorem dropRx_txbuf (k : Nat) : (s.dropRx k).txbuf = s.txbuf := rfl
@[simp] theorem dropRx_head (k : Nat) : (s.dropRx k).head = s.head := rfl
@[simp] theorem dropRx_pay (k : Nat) : (s.dropRx k).pay = s.pay := rfl
@[simp] theorem dropRx_tx (k : Nat) : (s.dropRx k).tx = s.tx := rfl
@[simp] theorem dropRx_txUnsent (k : Nat) : (s.dropRx k).txUnsent = s.txUnsent.drop s.nextDraw.sent := rfl
@[simp] theorem dropRx_txSent (k : Nat) : (s.dropRx k).txSent = s.txSent ++ s.txUnsent.take s.nextDraw.sent := rfl
@[simp] theorem dropRx_rx (k : Nat) : (s.dropRx k).rx = s.queued.drop k := rfl
@[simp] theorem dropRx_log (k : Nat) : (s.dropRx k).log = s.log := rfl
@[simp] theorem dropRx_deviceWait (k : Nat) : (s.dropRx k).deviceWait = s.nextDraw.waits := rfl
@[simp] theorem dropRx_trace (k : Nat) : (s.dropRx k).trace = s.trace := rfl
@[simp] theorem dropRx_inputs (k : Nat) : (s.dropRx k).inputs = s.inputs := rfl
@[simp] theorem dropRx_draws (k : Nat) : (s.dropRx k).draws = s.draws.tail := rfl
@[simp] theorem dropRx_drawCount (k : Nat) : (s.dropRx k).drawCount = s.drawCount + 1 := rfl

/-! ### `check`: nothing if the validation holds, the anomaly if not -/

@[simp] theorem check_crc (b : Bool) (f : AnomFlag) : (s.check b f).crc = s.crc := by
  unfold State.check; split <;> rfl
@[simp] theorem check_sum (b : Bool) (f : AnomFlag) : (s.check b f).sum = s.sum := by
  unfold State.check; split <;> rfl
@[simp] theorem check_lstate (b : Bool) (f : AnomFlag) : (s.check b f).lstate = s.lstate := by
  unfold State.check; split <;> rfl
@[simp] theorem check_timeout (b : Bool) (f : AnomFlag) : (s.check b f).timeout = s.timeout := by
  unfold State.check; split <;> rfl
@[simp] theorem check_strict (b : Bool) (f : AnomFlag) : (s.check b f).strict = s.strict := by
  unfold State.check; split <;> rfl
@[simp] theorem check_result (b : Bool) (f : AnomFlag) : (s.check b f).result = s.result := by
  unfold State.check; split <;> rfl
@[simp] theorem check_resultValid (b : Bool) (f : AnomFlag) : (s.check b f).resultValid = s.resultValid := by
  unfold State.check; split <;> rfl
@[simp] theorem check_latches (b : Bool) (f : AnomFlag) : (s.check b f).latches = s.latches := by
  unfold State.check; split <;> rfl
@[simp] theorem check_txbuf (b : Bool) (f : AnomFlag) : (s.check b f).txbuf = s.txbuf := by
  unfold State.check; split <;> rfl
@[simp] theorem check_head (b : Bool) (f : AnomFlag) : (s.check b f).head = s.head := by
  unfold State.check; split <;> rfl
@[simp] theorem check_pay (b : Bool) (f : AnomFlag) : (s.check b f).pay = s.pay := by
  unfold State.check; split <;> rfl
@[simp] theorem check_tx (b : Bool) (f : AnomFlag) : (s.check b f).tx = s.tx := by
  unfold State.check; split <;> rfl
@[simp] theorem check_txUnsent (b : Bool) (f : AnomFlag) : (s.check b f).txUnsent = s.txUnsent := by
  unfold State.check; split <;> rfl
@[simp] theorem check_txSent (b : Bool) (f : AnomFlag) : (s.check b f).txSent = s.txSent := by
  unfold State.check; split <;> rfl
@[simp] theorem check_rx (b : Bool) (f : AnomFlag) : (s.check b f).rx = s.rx := by
  unfold State.check; split <;> rfl
@[simp] theorem check_deviceWait (b : Bool) (f : AnomFlag) : (s.check b f).deviceWait = s.deviceWait := by
  unfold State.check; split <;> rfl
@[simp] theorem check_trace (b : Bool) (f : AnomFlag) : (s.check b f).trace = s.trace := by
  unfold State.check; split <;> rfl
@[simp] theorem check_inputs (b : Bool) (f : AnomFlag) : (s.check b f).inputs = s.inputs := by
  unfold State.check; split <;> rfl
@[simp] theorem check_draws (b : Bool) (f : AnomFlag) : (s.check b f).draws = s.draws := by
  unfold State.check; split <;> rfl
@[simp] theorem check_drawCount (b : Bool) (f : AnomFlag) : (s.check b f).drawCount = s.drawCount := by
  unfold State.check; split <;> rfl
@[simp] theorem check_anom (b : Bool) (f : AnomFlag) :
    (s.check b f).anom = if b then s.anom else s.anom ||| f.mask := by unfold State.check; split <;> rfl
@[simp] theorem check_log (b : Bool) (f : AnomFlag) :
    (s.check b f).log = if b then s.log else s.log ++ [f.logEvent] := by unfold State.check; split <;> rfl

/-! ### `deliver`: `Ok`, or in strict mode with a flag set a failure -/

@[simp] theorem deliver_crc (p : Bytes) : (s.deliver p).crc = s.crc := by
  unfold State.deliver; split <;> rfl
@[simp] theorem deliver_sum (p : Bytes) : (s.deliver p).sum = s.sum := by
  unfold State.deliver; split <;> rfl
@[simp] theorem deliver_lstate (p : Bytes) : (s.deliver p).lstate = s.lstate := by
  unfold State.deliver; split <;> rfl
@[simp] theorem deliver_timeout (p : Bytes) : (s.deliver p).timeout = s.timeout := by
  unfold State.deliver; split <;> rfl
@[simp] theorem deliver_strict (p : Bytes) : (s.deliver p).strict = s.strict := by
  unfold State.deliver; split <;> rfl
@[simp] theorem deliver_anom (p : Bytes) : (s.deliver p).anom = s.anom := by
  unfold State.deliver; split <;> rfl
@[simp] theorem deliver_latches (p : Bytes) : (s.deliver p).latches = s.latches := by
  unfold State.deliver; split <;> rfl
@[simp] theorem deliver_txbuf (p : Bytes) : (s.deliver p).txbuf = s.txbuf := by
  unfold State.deliver; split <;> rfl
@[simp] theorem deliver_head (p : Bytes) : (s.deliver p).head = s.head := by
  unfold State.deliver; split <;> rfl
@[simp] theorem deliver_pay (p : Bytes) : (s.deliver p).pay = s.pay := by
  unfold State.deliver; split <;> rfl
@[simp] theorem deliver_tx (p : Bytes) : (s.deliver p).tx = s.tx := by
  unfold State.deliver; split <;> rfl
@[simp] theorem deliver_txUnsent (p : Bytes) : (s.deliver p).txUnsent = s.txUnsent := by
  unfold State.deliver; split <;> rfl
@[simp] theorem deliver_txSent (p : Bytes) : (s.deliver p).txSent = s.txSent := by
  unfold State.deliver; split <;> rfl
@[simp] theorem deliver_rx (p : Bytes) : (s.deliver p).rx = s.rx := by
  unfold State.deliver; split <;> rfl
@[simp] theorem deliver_deviceWait (p : Bytes) : (s.deliver p).deviceWait = s.deviceWait := by
  unfold State.deliver; split <;> rfl
@[simp] theorem deliver_trace (p : Bytes) : (s.deliver p).trace = s.trace := by
  unfold State.deliver; split <;> rfl
@[simp] theorem deliver_inputs (p : Bytes) : (s.deliver p).inputs = s.inputs := by
  unfold State.deliver; split <;> rfl
@[simp] theorem deliver_draws (p : Bytes) : (s.deliver p).draws = s.draws := by
  unfold State.deliver; split <;> rfl
@[simp] theorem deliver_drawCount (p : Bytes) : (s.deliver p).drawCount = s.drawCount := by
  unfold State.deliver; split <;> rfl
@[simp] theorem deliver_resultValid (p : Bytes) : (s.deliver p).resultValid = true := by
  unfold State.deliver; split <;> rfl
@[simp] theorem deliver_result (p : Bytes) : (s.deliver p).result =
    { ending := if s.strict && s.anom != 0 then .fail .protocolViolation else .ok p, anom := s.anom } := by
  unfold State.deliver; split <;> rfl
@[simp] theorem deliver_log (p : Bytes) : (s.deliver p).log =
    if s.strict && s.anom != 0 then s.log ++ [.protocolViolation] else s.log := by
  unfold State.deliver; split <;> rfl

/-! ### `sample`: only the latches, and only for an operation -/

@[simp] theorem sample_crc (i : Instr) (w : PortWord) : (s.sample i w).crc = s.crc := by
  unfold State.sample; split <;> rfl
@[simp] theorem sample_sum (i : Instr) (w : PortWord) : (s.sample i w).sum = s.sum := by
  unfold State.sample; split <;> rfl
@[simp] theorem sample_lstate (i : Instr) (w : PortWord) : (s.sample i w).lstate = s.lstate := by
  unfold State.sample; split <;> rfl
@[simp] theorem sample_timeout (i : Instr) (w : PortWord) : (s.sample i w).timeout = s.timeout := by
  unfold State.sample; split <;> rfl
@[simp] theorem sample_strict (i : Instr) (w : PortWord) : (s.sample i w).strict = s.strict := by
  unfold State.sample; split <;> rfl
@[simp] theorem sample_anom (i : Instr) (w : PortWord) : (s.sample i w).anom = s.anom := by
  unfold State.sample; split <;> rfl
@[simp] theorem sample_result (i : Instr) (w : PortWord) : (s.sample i w).result = s.result := by
  unfold State.sample; split <;> rfl
@[simp] theorem sample_resultValid (i : Instr) (w : PortWord) : (s.sample i w).resultValid = s.resultValid := by
  unfold State.sample; split <;> rfl
@[simp] theorem sample_txbuf (i : Instr) (w : PortWord) : (s.sample i w).txbuf = s.txbuf := by
  unfold State.sample; split <;> rfl
@[simp] theorem sample_head (i : Instr) (w : PortWord) : (s.sample i w).head = s.head := by
  unfold State.sample; split <;> rfl
@[simp] theorem sample_pay (i : Instr) (w : PortWord) : (s.sample i w).pay = s.pay := by
  unfold State.sample; split <;> rfl
@[simp] theorem sample_tx (i : Instr) (w : PortWord) : (s.sample i w).tx = s.tx := by
  unfold State.sample; split <;> rfl
@[simp] theorem sample_txUnsent (i : Instr) (w : PortWord) : (s.sample i w).txUnsent = s.txUnsent := by
  unfold State.sample; split <;> rfl
@[simp] theorem sample_txSent (i : Instr) (w : PortWord) : (s.sample i w).txSent = s.txSent := by
  unfold State.sample; split <;> rfl
@[simp] theorem sample_rx (i : Instr) (w : PortWord) : (s.sample i w).rx = s.rx := by
  unfold State.sample; split <;> rfl
@[simp] theorem sample_log (i : Instr) (w : PortWord) : (s.sample i w).log = s.log := by
  unfold State.sample; split <;> rfl
@[simp] theorem sample_deviceWait (i : Instr) (w : PortWord) : (s.sample i w).deviceWait = s.deviceWait := by
  unfold State.sample; split <;> rfl
@[simp] theorem sample_trace (i : Instr) (w : PortWord) : (s.sample i w).trace = s.trace := by
  unfold State.sample; split <;> rfl
@[simp] theorem sample_inputs (i : Instr) (w : PortWord) : (s.sample i w).inputs = s.inputs := by
  unfold State.sample; split <;> rfl
@[simp] theorem sample_draws (i : Instr) (w : PortWord) : (s.sample i w).draws = s.draws := by
  unfold State.sample; split <;> rfl
@[simp] theorem sample_drawCount (i : Instr) (w : PortWord) : (s.sample i w).drawCount = s.drawCount := by
  unfold State.sample; split <;> rfl
@[simp] theorem sample_latches (i : Instr) (w : PortWord) :
    (s.sample i w).latches = if i.isOperation then w else s.latches := by unfold State.sample; split <;> rfl

end Sys2Proof.Machine
end

