-- ==== Sys2Proof/Laws/Ops.lean ====
section
/-! SUPPORT. One lemma for each shared operation that says once everything it can do, cited where the operation would
otherwise be unfolded. -/

namespace Sys2Proof.Machine

/-! ### Draws -/

/-- The next draw is draw 0. -/
theorem nextDraw_eq_drawAt (s : State) : s.nextDraw = s.drawAt 0 := by
  unfold State.nextDraw State.drawAt
  cases s.draws <;> simp

/-- A state whose draws are those of another after one access has that other's draws, moved up by one. -/
theorem drawAt_after (s t : State) (hd : t.draws = s.draws.tail) (hc : t.drawCount = s.drawCount + 1) (k : Nat) :
    t.drawAt k = s.drawAt (k + 1) := by
  unfold State.drawAt
  rw [hd, hc, List.getElem?_tail, Nat.add_assoc, Nat.add_comm 1 k]

/-- With no reset in `n + 1` accesses, there is none in the `n` after the first. -/
theorem noReset_after (s t : State) (hd : t.draws = s.draws.tail) (hc : t.drawCount = s.drawCount + 1) (n : Nat)
    (h : s.NoReset (n + 1)) : t.NoReset n := by
  intro k hk
  rw [drawAt_after s t hd hc]
  exact h (k + 1) (by omega)

/-- A script of at least `n` draws, none of which asserts the reset input. -/
theorem noReset_of_script (s : State) (n : Nat) (hn : n ≤ s.draws.length)
    (hr : ∀ d, d ∈ s.draws → d.reset = false) : s.NoReset n := by
  intro k hk
  have hlt : k < s.draws.length := by omega
  have hd : s.drawAt k = s.draws[k] := by simp [State.drawAt, hlt]
  rw [hd]
  exact hr _ (List.getElem_mem hlt)

/-! ### Histories -/

/-- What a history wrote, part by part. -/
theorem writtenBy_append (a b : List Event) : writtenBy (a ++ b) = writtenBy a ++ writtenBy b := by
  induction a with
  | nil => rfl
  | cons e a ih => cases e <;> simp [writtenBy, ih, List.append_assoc]

/-- What the reads of a history returned, part by part. -/
theorem readsOf_append (a b : List Event) : readsOf (a ++ b) = readsOf a ++ readsOf b := by
  induction a with
  | nil => rfl
  | cons e a ih => cases e <;> simp [readsOf, ih]

/-! ### Reads -/

/-- A read returns at most what it asked for. -/
theorem readCount_le (n queued drawn : Nat) : readCount n queued drawn ≤ n := by
  unfold readCount; split <;> omega

/-- A read returns at most what is there. -/
theorem readCount_le_queued (n queued drawn : Nat) : readCount n queued drawn ≤ queued := by
  unfold readCount; split <;> omega

/-- A read that the queue can fill is full. -/
theorem readCount_full (n queued drawn : Nat) (h : n ≤ queued) : readCount n queued drawn = n := by
  unfold readCount; simp [h]

/-- A read leaves `neverFills` false exactly if its timeout is bounded or the queue can fill it. -/
theorem neverFills_eq_false (s : State) (n : Nat) :
    s.neverFills n = false ↔ (s.timeout = .unbounded → n ≤ s.queued.length) := by
  simp only [State.neverFills, Bool.and_eq_false_iff, beq_eq_false_iff_ne, decide_eq_false_iff_not, not_lt]
  tauto

/-- Everything a read that returns does. -/
theorem rxRead_got (s : State) (n : Nat) (r : Bytes) (t : State) (h : s.rxRead n = .got r t) :
    s.nextDraw.reset = false ∧ (s.timeout = .unbounded → n ≤ s.queued.length) ∧
    r = s.queued.take (s.readLength n) ∧ t = s.takeRx n (s.readLength n) := by
  unfold State.rxRead at h
  split at h
  · cases h
  split at h
  · cases h
  next hr hu =>
    simp only [Read.got.injEq] at h
    exact ⟨by simpa using hr, (neverFills_eq_false s n).mp (by simpa using hu), h.1.symm, h.2.symm⟩

/-- Everything a read that the reset input abandons does. -/
theorem rxRead_abandoned (s : State) (n : Nat) (t : State) (h : s.rxRead n = .abandoned t) :
    s.nextDraw.reset = true ∧ t = s.dropRx (min n s.nextDraw.count) := by
  unfold State.rxRead at h
  split at h
  next hr => simp only [Read.abandoned.injEq] at h; exact ⟨hr, h.symm⟩
  split at h <;> cases h

/-- When a read never returns. -/
theorem rxRead_hung (s : State) (n : Nat) (t : State) (h : s.rxRead n = .hung t) :
    s.nextDraw.reset = false ∧ s.timeout = .unbounded ∧ s.queued.length < n ∧ t = s.environment := by
  unfold State.rxRead at h
  split at h
  · cases h
  split at h
  next hr hu =>
    simp only [Read.hung.injEq] at h
    simp only [State.neverFills, Bool.and_eq_true, beq_iff_eq, decide_eq_true_eq] at hu
    exact ⟨by simpa using hr, hu.1, hu.2, h.symm⟩
  · cases h

/-- A read that is not abandoned, and that a bound or the queue lets end, returns. -/
theorem rxRead_returns (s : State) (n : Nat) (hr : s.nextDraw.reset = false)
    (ht : s.timeout = .unbounded → n ≤ s.queued.length) :
    s.rxRead n = .got (s.queued.take (s.readLength n)) (s.takeRx n (s.readLength n)) := by
  unfold State.rxRead
  rw [(neverFills_eq_false s n).mpr ht, hr]
  rfl

/-- A read that the queue can fill, and that is not abandoned, returns the first `n` bytes. -/
theorem rxRead_full (s : State) (n : Nat) (hr : s.nextDraw.reset = false) (hn : n ≤ s.queued.length) :
    s.rxRead n = .got (s.queued.take n) (s.takeRx n n) := by
  have hk : s.readLength n = n := readCount_full _ _ _ hn
  rw [rxRead_returns s n hr (fun _ => hn), hk]

/-- A read returns at most what it asked for (20_memory.md R37). -/
theorem rxRead_got_length (s : State) (n : Nat) (r : Bytes) (t : State) (h : s.rxRead n = .got r t) :
    r.length ≤ n := by
  obtain ⟨-, -, rfl, -⟩ := rxRead_got s n r t h
  rw [List.length_take]
  have := readCount_le n s.queued.length s.nextDraw.count
  unfold State.readLength
  omega

/-! ### What reading and validating leave alone -/

/-- `t` is reached from `s` by reads and validations: only `sum`, `ANOM`, HEAD, PAY, RX, LOG, the channel and the history
may differ, and the history grows by reads alone. -/
structure Reads (s t : State) : Prop where
  crc : t.crc = s.crc
  lstate : t.lstate = s.lstate
  timeout : t.timeout = s.timeout
  strict : t.strict = s.strict
  result : t.result = s.result
  resultValid : t.resultValid = s.resultValid
  latches : t.latches = s.latches
  txbuf : t.txbuf = s.txbuf
  tx : t.tx = s.tx
  inputs : t.inputs = s.inputs
  head : s.head.length ≤ 6 → t.head.length ≤ 6
  pay : s.pay.length ≤ 254 → t.pay.length ≤ 254
  log : ∃ es, t.log = s.log ++ es
  trace : ∃ es, t.trace = s.trace ++ es ∧ ∀ e, e ∈ es → ∃ n g, e = .rx n g ∧ n ≤ 255 ∧ g.length ≤ n

theorem Reads.refl (s : State) : Reads s s :=
  ⟨rfl, rfl, rfl, rfl, rfl, rfl, rfl, rfl, rfl, rfl, id, id, ⟨[], by simp⟩, ⟨[], by simp, by simp⟩⟩

theorem Reads.trans {s t u : State} (h : Reads s t) (k : Reads t u) : Reads s u := by
  obtain ⟨l1, hl1⟩ := h.log
  obtain ⟨l2, hl2⟩ := k.log
  obtain ⟨t1, ht1, hm1⟩ := h.trace
  obtain ⟨t2, ht2, hm2⟩ := k.trace
  refine ⟨k.crc.trans h.crc, k.lstate.trans h.lstate, k.timeout.trans h.timeout, k.strict.trans h.strict,
    k.result.trans h.result, k.resultValid.trans h.resultValid, k.latches.trans h.latches,
    k.txbuf.trans h.txbuf, k.tx.trans h.tx, k.inputs.trans h.inputs, k.head ∘ h.head, k.pay ∘ h.pay,
    ⟨l1 ++ l2, by rw [hl2, hl1, List.append_assoc]⟩,
    ⟨t1 ++ t2, by rw [ht2, ht1, List.append_assoc], fun e he => ?_⟩⟩
  rcases List.mem_append.mp he with h1 | h2
  · exact hm1 e h1
  · exact hm2 e h2

theorem reads_check (s : State) (b : Bool) (f : AnomFlag) : Reads s (s.check b f) := by
  refine ⟨by simp, by simp, by simp, by simp, by simp, by simp, by simp, by simp, by simp, by simp, by simp, by simp,
    ?_, ⟨[], by simp, by simp⟩⟩
  cases b
  · exact ⟨[f.logEvent], by simp⟩
  · exact ⟨[], by simp⟩

theorem reads_clearAnom (s : State) : Reads s s.clearAnom :=
  ⟨rfl, rfl, rfl, rfl, rfl, rfl, rfl, rfl, rfl, rfl, id, id, ⟨[], by simp⟩, ⟨[], by simp, by simp⟩⟩

theorem reads_setHead (s : State) (b : Bytes) (h : b.length ≤ 6) : Reads s (s.setHead b) :=
  ⟨rfl, rfl, rfl, rfl, rfl, rfl, rfl, rfl, rfl, rfl, fun _ => h, id, ⟨[], by simp⟩, ⟨[], by simp, by simp⟩⟩

theorem reads_setPay (s : State) (b : Bytes) (h : b.length ≤ 254) : Reads s (s.setPay b) :=
  ⟨rfl, rfl, rfl, rfl, rfl, rfl, rfl, rfl, rfl, rfl, id, fun _ => h, ⟨[], by simp⟩, ⟨[], by simp, by simp⟩⟩

theorem reads_runSum (s : State) (m : Byte) (p : Bytes) : Reads s (s.runSum m p) :=
  ⟨rfl, rfl, rfl, rfl, rfl, rfl, rfl, rfl, rfl, rfl, id, id, ⟨[], by simp⟩, ⟨[], by simp, by simp⟩⟩

theorem reads_environment (s : State) : Reads s s.environment :=
  ⟨rfl, rfl, rfl, rfl, rfl, rfl, rfl, rfl, rfl, rfl, id, id, ⟨[], by simp⟩, ⟨[], by simp, by simp⟩⟩

theorem reads_rxRead_got (s : State) (n : Nat) (hn : n ≤ 255) (r : Bytes) (t : State) (h : s.rxRead n = .got r t) :
    Reads s t := by
  have hl := rxRead_got_length s n r t h
  obtain ⟨-, -, hr, rfl⟩ := rxRead_got s n r t h
  exact ⟨rfl, rfl, rfl, rfl, rfl, rfl, rfl, rfl, rfl, rfl, id, id, ⟨[], by simp⟩,
    ⟨[.rx n r], by rw [hr]; rfl, fun e he => ⟨n, r, by simpa using he, hn, hl⟩⟩⟩

theorem reads_rxRead_abandoned (s : State) (n : Nat) (t : State) (h : s.rxRead n = .abandoned t) : Reads s t := by
  obtain ⟨-, rfl⟩ := rxRead_abandoned s n t h
  exact ⟨rfl, rfl, rfl, rfl, rfl, rfl, rfl, rfl, rfl, rfl, id, id, ⟨[], by simp⟩, ⟨[], by simp, by simp⟩⟩

/-- The state a parse has reached. -/
def Parse.state : Parse → State
  | .payload _ t => t
  | .noResponse t => t
  | .parseError t => t
  | .abandoned t => t
  | .hung t => t

theorem reads_parsePostamble (s : State) : Reads s s.parsePostamble.state := by
  unfold State.parsePostamble
  split
  next t h => exact reads_rxRead_got s 1 (by omega) _ t h
  next x r t h => exact (reads_rxRead_got s 1 (by omega) _ t h).trans (reads_check ..)
  next t h => exact reads_rxRead_abandoned s 1 t h
  next t h => obtain ⟨-, -, -, rfl⟩ := rxRead_hung s 1 t h; exact reads_environment s

theorem reads_takeBody (s : State) (len m : Byte) (body : Bytes) : Reads s (s.takeBody len m body) := by
  have hp : (body.take (len.toNat - 1)).length ≤ 254 := by
    rw [List.length_take]; have := len.isLt; omega
  exact ((reads_setPay s _ hp).trans (reads_runSum _ m _)).trans (reads_check ..)

theorem reads_parseBody (s : State) (len m : Byte) : Reads s (s.parseBody len m).state := by
  have hlen : len.toNat ≤ 255 := by have := len.isLt; omega
  have hc := reads_check s (m == Config.deviceMarker) .marker
  unfold State.parseBody
  split
  next body t h =>
    have ht := hc.trans (reads_rxRead_got _ _ hlen body t h)
    split
    · exact ht
    · exact (ht.trans (reads_takeBody t len m body)).trans (reads_parsePostamble _)
  next t h => exact hc.trans (reads_rxRead_abandoned _ _ t h)
  next t h => obtain ⟨-, -, -, rfl⟩ := rxRead_hung _ _ t h; exact hc.trans (reads_environment _)

theorem reads_parseHead (s : State) (b0 b1 b2 len c m : Byte) :
    Reads s (s.parseHead b0 b1 b2 len c m).state := by
  have hc := (reads_check s ([b0, b1, b2] == Config.preamble) .pre).trans (reads_check _ (lcsOk len c) .lcs)
  unfold State.parseHead
  split
  · exact (hc.trans (reads_setPay _ [] (by simp))).trans (reads_parsePostamble _)
  · exact hc.trans (reads_parseBody _ len m)

/-- Everything that holds of a parse however it ends. -/
theorem reads_parseFrame (s : State) : Reads s s.parseFrame.state := by
  unfold State.parseFrame
  split
  next t h => exact (reads_rxRead_got s 6 (by omega) _ t h).trans (reads_setHead t [] (by simp))
  next b0 b1 b2 len c m t h =>
    exact ((reads_rxRead_got s 6 (by omega) _ t h).trans (reads_setHead t _ (by simp))).trans (reads_parseHead ..)
  next r t h1 h2 h =>
    exact (reads_rxRead_got s 6 (by omega) r t h).trans
      (reads_setHead t r (rxRead_got_length s 6 r t h))
  next t h => exact reads_rxRead_abandoned s 6 t h
  next t h => obtain ⟨-, -, -, rfl⟩ := rxRead_hung s 6 t h; exact reads_environment s

/-- Everything that holds of the ACK comparison when its read returns: `ANOM.ACK` is set exactly on a difference
(43_frame_parse.md R102). -/
theorem ackCheck_got (s : State) (r : Bytes) (t : State) (h : s.ackCheck = .got r t) :
    ∃ u, s.rxRead 6 = .got r u ∧ t = u.check (r == Config.ack) .ack := by
  unfold State.ackCheck at h
  split at h
  next a u hu => simp only [Read.got.injEq] at h; obtain ⟨rfl, rfl⟩ := h; exact ⟨u, hu, rfl⟩
  · cases h
  · cases h

/-- A parse is stuck in a read only under a timeout without bound. -/
theorem parseFrame_hung {s t : State} (h : s.parseFrame = .hung t) : s.timeout = .unbounded := by
  unfold State.parseFrame at h
  split at h
  · cases h
  next b0 b1 b2 len c m u hu =>
    have ht : u.timeout = s.timeout := (reads_rxRead_got s 6 (by omega) _ u hu).timeout
    have hc : (((u.setHead [b0, b1, b2, len, c, m]).check ([b0, b1, b2] == Config.preamble) .pre).check (lcsOk len c) .lcs).timeout = u.timeout :=
      ((reads_check _ _ _).timeout).trans ((reads_check _ _ _).timeout)
    have post : ∀ (v w : State), v.parsePostamble = .hung w → v.timeout = .unbounded := by
      intro v w h
      unfold State.parsePostamble at h
      split at h
      · cases h
      · cases h
      · cases h
      next h' => exact (rxRead_hung _ _ _ h').2.1
    unfold State.parseHead at h
    split at h
    · have := post _ _ h
      rw [← ht, ← hc]; exact this
    · unfold State.parseBody at h; dsimp only at h
      split at h
      next body v hv =>
        split at h
        · cases h
        · have h1 := post _ _ h
          rw [(reads_takeBody v len m body).timeout, (reads_rxRead_got _ len.toNat (by have := len.isLt; omega) _ _ hv).timeout, (reads_check _ _ _).timeout, hc, ht] at h1
          exact h1
      · cases h
      next h' =>
        have h1 := (rxRead_hung _ _ _ h').2.1
        rw [(reads_check _ _ _).timeout, hc, ht] at h1; exact h1
  · cases h
  · cases h
  next h' => exact (rxRead_hung _ _ _ h').2.1

/-- The ways a finished reading operation answers (`finish`). -/
theorem finish_next (tmo : Duration) (e : Ended) (t : State) (h : finish tmo e = .next t) :
    t = e.state ∧ (tmo = .unbounded → ∃ u, e = .done u) := by
  unfold finish at h
  split at h
  · simp only [Host.Outcome.next.injEq] at h; exact ⟨h.symm, fun k => nomatch k⟩
  · split at h
    next u => simp only [Host.Outcome.next.injEq] at h; exact ⟨h.symm, fun _ => ⟨u, rfl⟩⟩
    · cases h

/-- Under a finite timeout a reading operation answers a next state (70_reset_and_hazards.md R165). -/
theorem finish_finite (n : Nat) (e : Ended) : finish (.finite n) e = .next e.state := rfl

/-- Everything a delivery to the device does (20_memory.md R47). -/
theorem carry_next (s : State) (b : Bytes) (t : State) (h : s.carry b = .next t) :
    b <+: s.txUnsent ∧ t = { s with txUnsent := s.txUnsent.drop b.length, txSent := s.txSent ++ b } := by
  unfold State.carry at h
  split at h
  next hp => simp only [Host.Outcome.next.injEq] at h; exact ⟨List.isPrefixOf_iff_prefix.mp hp, h.symm⟩
  · cases h

end Sys2Proof.Machine
end

