-- ==== Sys2Proof/Tests/Slice0.lean ====
section
/-! SUPPORT. Tests. Expected values are those of spec/95_test_vectors.md, by section or program, unless a comment says
otherwise; words are written out from the tables of spec/30_encoding.md. -/

namespace Sys2Proof.Tests

open Sys2Proof.Machine

/-! ### Helpers -/

/-- A draw that brings `b` and lets a read that cannot be filled return all there is. -/
def brings (b : Bytes) : ChanDraw := { sent := 0, arrived := b, count := 1000, waits := false, reset := false }

/-- A draw at which the reset input is asserted. -/
def resets : ChanDraw := { brings [] with reset := true }

/-- The reset state with RX holding `b`, and a device that sends nothing more. -/
def withRx (b : Bytes) : State :=
  { State.reset with rx := b, draws := [brings [], brings [], brings []] }

/-- The reset state with a device that answers a call with `b`, all of it before the ACK read ends. -/
def answering (b : Bytes) : State :=
  { State.reset with draws := [brings [], brings b, brings [], brings [], brings []] }

/-- The state an outcome reached. -/
def stateOf : Host.Outcome State Fault Refusal → Option State
  | .next t => some t
  | .fault _ => none
  | .refused _ => none

/-- The result an outcome's operation left. -/
def resultOf (o : Host.Outcome State Fault Refusal) : Option Result := (stateOf o).bind State.readResult

/-- The response frame of S6. -/
def s6Frame : Bytes := [0x00, 0x00, 0xFF, 0x06, 0xFA, 0xD5, 0x02, 0x32, 0x01, 0x06, 0x07, 0xE9, 0x00]

/-- The payload of S6. -/
def s6Payload : Bytes := [0x02, 0x32, 0x01, 0x06, 0x07]

/-! ### WellFormed: an ill-formed term for each check -/

theorem test_wf_refuses_long_crcA : (Instr.crcA (List.replicate 65536 0)).wellFormed = false := by
  rw [Instr.wellFormed, List.length_replicate]; rfl
theorem test_wf_refuses_long_withCrcA : (Instr.withCrcA (List.replicate 65536 0)).wellFormed = false := by
  rw [Instr.wellFormed, List.length_replicate]; rfl
theorem test_wf_refuses_long_dcs : (Instr.dcs 0xD4 (List.replicate 65536 0)).wellFormed = false := by
  rw [Instr.wellFormed, List.length_replicate]; rfl
theorem test_wf_refuses_long_buildFrame : (Instr.buildFrame 0 (List.replicate 65536 0)).wellFormed = false := by
  rw [Instr.wellFormed, List.length_replicate]; rfl
theorem test_wf_refuses_long_transact :
    (Instr.transact 0 (List.replicate 65536 0) (.finite 1)).wellFormed = false := by
  rw [Instr.wellFormed, List.length_replicate]; rfl
theorem test_wf_refuses_long_frameHostToDevice :
    (Instr.frameHostToDevice 0 (List.replicate 254 0)).wellFormed = false := by
  rw [Instr.wellFormed, List.length_replicate]; rfl
theorem test_wf_refuses_long_frameDeviceToHost :
    (Instr.frameDeviceToHost (List.replicate 255 0)).wellFormed = false := by
  rw [Instr.wellFormed, List.length_replicate]; rfl
/-- a payload too long to frame is well formed: it fails when it runs (42_frame_build.md R85) -/
theorem test_wf_admits_unframable_payload :
    (Instr.buildFrame 0 (List.replicate 254 0)).wellFormed = true := by
  rw [Instr.wellFormed, List.length_replicate]; rfl

/-! ### Decode: words written out from 30_encoding.md R52, R54 (OP in bits 3..0), and the wire forms byte by byte -/

theorem test_decode_crcA : decodeTableWord 8 0b0000 = some (.crcA []) := by decide
theorem test_decode_withCrcA : decodeTableWord 8 0b0001 = some (.withCrcA []) := by decide
theorem test_decode_lcs : decodeTableWord 8 0b0010 = some (.lcs 0) := by decide
theorem test_decode_dcs : decodeTableWord 8 0b0011 = some (.dcs 0 []) := by decide
theorem test_decode_buildFrame : decodeTableWord 8 0b0100 = some (.buildFrame 0 []) := by decide
theorem test_decode_parseFrame : decodeTableWord 8 0b0101 = some .parseFrame := by decide
theorem test_decode_transact : decodeTableWord 8 0b0110 = some (.transact 0 [] (.finite 0)) := by decide
theorem test_decode_reserved7 : decodeTableWord 8 0b0111 = some .reserved7 := by decide
theorem test_decode_reserved8 : decodeTableWord 8 0b1000 = some .reserved8 := by decide
theorem test_decode_reserved9 : decodeTableWord 8 0b1001 = some .reserved9 := by decide
theorem test_decode_reservedA : decodeTableWord 8 0b1010 = some .reservedA := by decide
theorem test_decode_reservedB : decodeTableWord 8 0b1011 = some .reservedB := by decide
theorem test_decode_reservedC : decodeTableWord 8 0b1100 = some .reservedC := by decide
theorem test_decode_reservedD : decodeTableWord 8 0b1101 = some .reservedD := by decide
theorem test_decode_reservedE : decodeTableWord 8 0b1110 = some .reservedE := by decide
theorem test_decode_reservedF : decodeTableWord 8 0b1111 = some .reservedF := by decide
/-- 2.3, first row, first byte in bits 7..0 -/
theorem test_decode_frameHostToDevice :
    decodeTableWord 72 0x002B01D4FE02FF0000 = some (.frameHostToDevice 0x01 []) := by decide
/-- S6 -/
theorem test_decode_frameDeviceToHost :
    decodeTableWord 104 0x00E90706013202D5FA06FF0000 = some (.frameDeviceToHost s6Payload) := by decide
/-- S4 -/
theorem test_decode_frameAck : decodeTableWord 48 0x00FF00FF0000 = some (.frameAck .toHost) := by decide
/-- operands of a request reach the operation that reads them -/
theorem test_decode_operands :
    decode (.port { op := 0b0110, cmd := 0x4A, din := [0x01, 0x00], tmo := .finite 7 })
      = .ok (.transact 0x4A [0x01, 0x00] (.finite 7)) := by decide

theorem test_decode_rejects_short :
    decode (.line .toHost [0x00, 0x00, 0xFF]) = .error .wireTooShort := by decide
theorem test_decode_rejects_preamble :
    decode (.line .toHost [0x00, 0x00, 0xFE, 0x01, 0xFF, 0xD5, 0x2B, 0x00]) = .error .wirePreamble := by decide
theorem test_decode_rejects_length_checksum :
    decode (.line .toHost [0x00, 0x00, 0xFF, 0x01, 0xFE, 0xD5, 0x2B, 0x00]) = .error .wireLengthChecksum := by
  decide
theorem test_decode_rejects_marker :
    decode (.line .toHost [0x00, 0x00, 0xFF, 0x02, 0xFE, 0xD4, 0x01, 0x2B, 0x00]) = .error .wireMarker := by decide
theorem test_decode_rejects_length :
    decode (.line .toHost [0x00, 0x00, 0xFF, 0x01, 0xFF, 0xD5, 0x2B]) = .error .wireLength := by decide
theorem test_decode_rejects_data_checksum :
    decode (.line .toHost [0x00, 0x00, 0xFF, 0x01, 0xFF, 0xD5, 0x2C, 0x00]) = .error .wireDataChecksum := by decide
theorem test_decode_rejects_postamble :
    decode (.line .toHost [0x00, 0x00, 0xFF, 0x01, 0xFF, 0xD5, 0x2B, 0x01]) = .error .wirePostamble := by decide
theorem test_decode_rejects_no_command :
    decode (.line .toDevice [0x00, 0x00, 0xFF, 0x01, 0xFF, 0xD4, 0x2C, 0x00]) = .error .wireNoCommand := by decide

/-! ### The functions (95_test_vectors.md 2.1 to 2.3) -/

theorem test_crcStep_polynomial : crcStep 0x0000 0x80 = 0x8408 := by decide
theorem test_crcStep_both_taps : crcStep 0x6363 0x00 = 0x51FE := by decide
theorem test_crcStep_low_byte : crcStep 0x1234 0x56 = 0x4006 := by decide
theorem test_crcA_empty : crcA [] = [0x63, 0x63] := by decide
theorem test_crcA_1234 : crcA [0x12, 0x34] = [0x26, 0xCF] := by decide
theorem test_crcA_ascii :
    crcA [0x31, 0x32, 0x33, 0x34, 0x35, 0x36, 0x37, 0x38, 0x39] = [0x05, 0xBF] := by decide
theorem test_dcs_wraps : dcs 0xD4 [0x80, 0x80] = 0x2C := by decide
theorem test_lcsOk_ack_pair : lcsOk 0x00 0xFF = false := by decide
set_option maxRecDepth 8000 in
theorem test_buildFrame_max : (buildFrame 0xFF (List.replicate 253 0xFF)).length = 262
    ∧ (buildFrame 0xFF (List.replicate 253 0xFF)).getD 260 0 = 0x2A := by decide

/-! ### One step of each instruction -/

theorem test_crcA : resultOf (exec (.crcA [0x05, 0x00, 0x08]) State.reset)
    = some ⟨.ok [0xE1, 0x10], 0⟩ := by decide
theorem test_withCrcA : resultOf (exec (.withCrcA [0x00, 0x00]) State.reset)
    = some ⟨.ok [0x00, 0x00, 0xA0, 0x1E], 0⟩ := by decide
theorem test_lcs : resultOf (exec (.lcs 0x06) State.reset) = some ⟨.ok [0xFA], 0⟩ := by decide
theorem test_lcs_zero : resultOf (exec (.lcs 0x00) State.reset) = some ⟨.ok [0x00], 0⟩ := by decide
theorem test_dcs : resultOf (exec (.dcs 0xD5 s6Payload) State.reset) = some ⟨.ok [0xE9], 0⟩ := by decide
theorem test_dcs_sum_256 : resultOf (exec (.dcs 0xD4 [0x2C]) State.reset) = some ⟨.ok [0x00], 0⟩ := by decide
theorem test_buildFrame : resultOf (exec (.buildFrame 0x4A [0x01, 0x00]) State.reset)
    = some ⟨.ok [0x00, 0x00, 0xFF, 0x04, 0xFC, 0xD4, 0x4A, 0x01, 0x00, 0xE1, 0x00], 0⟩ := by decide
set_option maxRecDepth 8000 in
theorem test_buildFrame_too_long : resultOf (exec (.buildFrame 0 (List.replicate 254 0)) State.reset)
    = some ⟨.fail .operandRange, 0⟩ := by decide

/-- 2.4, "bad start code, bad postamble" -/
theorem test_parse_pre_post : resultOf (exec .parseFrame (withRx
      [0x00, 0x00, 0xFE, 0x06, 0xFA, 0xD5, 0x02, 0x32, 0x01, 0x06, 0x07, 0xE9, 0x01]))
    = some ⟨.ok s6Payload, 0b100010⟩ := by decide
/-- 2.4, "LEN corrupted downward": the result and what stays in RX -/
theorem test_parse_len_low : (stateOf (exec .parseFrame (withRx
      [0x00, 0x00, 0xFF, 0x03, 0xFA, 0xD5, 0x02, 0x32, 0x01, 0x06, 0x07, 0xE9, 0x00]))).map
      (fun t => (t.result, t.rx))
    = some (⟨.ok [0x02, 0x32], 0b110100⟩, [0x07, 0xE9, 0x00]) := by decide

/-- P2: the result, TX, and the link states; RX held stale bytes -/
theorem test_transact_clean :
    (stateOf (exec (.transact 0x01 [] (.finite 9))
      { answering (Config.ack ++ s6Frame) with rx := [0xAA, 0xBB] })).map
      (fun t => (t.result, t.tx, t.rx, linkStates t.trace))
    = some (⟨.ok s6Payload, 0⟩,
      [0x00, 0x00, 0xFF, 0x02, 0xFE, 0xD4, 0x01, 0x2B, 0x00, 0x00, 0x00, 0xFF, 0x00, 0xFF, 0x00], [],
      [.frameSent, .ackAwaited, .ackVerified, .responseAwaited, .responseParsed, .idle]) := by decide
/-- P3, strict: the result and the order of the log -/
theorem test_transact_noisy_strict :
    (stateOf (exec (.transact 0x01 [] (.finite 9))
      { answering ([0x00, 0x00, 0xFF, 0x00, 0xFF, 0x01] ++
          [0x00, 0x00, 0xFF, 0x06, 0xFB, 0xD5, 0x02, 0x32, 0x01, 0x06, 0x07, 0xEA, 0x00])
        with strict := true })).map (fun t => (t.result, t.log))
    = some (⟨.fail .protocolViolation, 0b010101⟩,
      [.ackMismatch, .lengthChecksumMismatch, .dataChecksumMismatch, .protocolViolation]) := by decide

theorem test_reserved7 : resultOf (exec .reserved7 State.reset) = some ⟨.fail .unsupportedOperation, 0⟩ := by decide
theorem test_reservedF : (stateOf (exec .reservedF State.reset)).map (fun t => t.log)
    = some [.unsupportedOperation] := by decide

/-- R47: the frame that waits to be sent reaches the device -/
theorem test_frameHostToDevice : (stateOf (exec (.frameHostToDevice 0x01 [])
      { State.reset with txUnsent := [0x00, 0x00, 0xFF, 0x02, 0xFE, 0xD4, 0x01, 0x2B, 0x00, 0x77] })).map
      (fun t => (t.txUnsent, t.txSent))
    = some ([0x77], [0x00, 0x00, 0xFF, 0x02, 0xFE, 0xD4, 0x01, 0x2B, 0x00]) := by decide
/-- S6: the bytes arrive behind those already in RX -/
theorem test_frameDeviceToHost : (stateOf (exec (.frameDeviceToHost s6Payload)
      { State.reset with rx := [0x77] })).map (fun t => (t.rx, t.deviceWait))
    = some (0x77 :: s6Frame, true) := by decide
theorem test_frameAck : (stateOf (exec (.frameAck .toHost) State.reset)).map (fun t => t.rx)
    = some [0x00, 0x00, 0xFF, 0x00, 0xFF, 0x00] := by decide

/-! ### Steps -/

/-- the table's word for LCS, presented first after reset, runs -/
theorem test_step_runs_word : resultOf (step (State.reset.withFetchWord 8 0b0010)) = some ⟨.ok [0x00], 0⟩ := by decide
/-- R157: a reset while a call waits for its ACK leaves no result and `STRICT` 0; the frame's sent bytes stay sent -/
theorem test_reset_in_call :
    (stateOf (exec (.transact 0x01 [] (.finite 9))
      { State.reset with
        strict := true
        draws := [brings [], { sent := 3, arrived := [], count := 0, waits := false, reset := true }] })).map
      (fun t => (t.readResult, t.strict, t.tx, t.txSent))
    = some (none, false, [], [0x00, 0x00, 0xFF]) := by decide
/-- U6: a timeout without bound and a silent device -/
theorem test_unbounded_silent :
    (match exec (.transact 0x01 [] .unbounded) (answering []) with
      | .fault .readNeverReturns => true
      | .next _ => false
      | .refused _ => false) = true := by decide

/-! ### Witnesses: for each statement with hypotheses, a concrete state and operands that meet them together. A statement
whose operands have a limit is met at the limit. -/

/-- A script of five draws without reset is long enough for any operation. -/
theorem answering_noReset (b : Bytes) (n : Nat) (h : n ≤ 5) : (answering b).NoReset n := by
  refine noReset_of_script _ n h ?_
  intro d hd
  simp only [answering, brings, List.mem_cons, List.not_mem_nil, or_false] at hd
  rcases hd with rfl | rfl | rfl | rfl | rfl <;> rfl

/-- A script of three draws without reset is long enough for PARSE_FRAME. -/
theorem withRx_noReset (b : Bytes) (n : Nat) (h : n ≤ 3) : (withRx b).NoReset n := by
  refine noReset_of_script _ n h ?_
  intro d hd
  simp only [withRx, brings, List.mem_cons, List.not_mem_nil, or_false] at hd
  rcases hd with rfl | rfl | rfl <;> rfl

/-- `n` zero bytes. -/
def zeros (n : Nat) : Bytes := List.replicate n 0

theorem zeros_length (n : Nat) : (zeros n).length = n := List.length_replicate

/-- The reset state with one input. -/
def facing (x : Input) : State := { State.reset with inputs := [x] }

theorem witness_DecodeOfEncodeIsTheInstruction :
    (Instr.frameHostToDevice 0xFF (zeros 253)).wellFormed = true ∧
    (Instr.frameDeviceToHost (zeros 254)).wellFormed = true := by
  simp [Instr.wellFormed, zeros_length]
theorem witness_LineBytesHaveOneMeaning :
    decode (.line .toHost s6Frame) = .ok (.frameDeviceToHost s6Payload) := by decide
theorem witness_CrcAOperation : (zeros 65535).length ≤ 65535 := (zeros_length _).le
theorem witness_WithCrcAOperation : (zeros 65535).length ≤ 65535 := (zeros_length _).le
theorem witness_LcsOperation : (zeros 65535).length ≤ 65535 := (zeros_length _).le
theorem witness_DcsOperation : (zeros 65535).length ≤ 65535 := (zeros_length _).le
theorem witness_CrcResultDependsOnDataAlone :
    ∃ t v, exec (.withCrcA [0x12]) State.reset = .next t ∧
      exec (.withCrcA [0x12]) { State.reset with crc := 0, anom := 0b000001, rx := [0x77] } = .next v :=
  ⟨_, _, rfl, rfl⟩
theorem witness_DcsClosesTheSum : [0x01, 0x02, 0x03].Perm ([0x03, 0x01, 0x02] : Bytes) := by decide
theorem witness_BuildFrameOperation :
    (zeros 65535).length ≤ 65535 ∧ (zeros 253).length + 1 ≤ 254 ∧ 254 < (zeros 254).length + 1 := by
  simp [zeros_length]
theorem witness_BuiltFrameInvariants :
    (zeros 253).length + 1 ≤ 254 ∧ buildFrame 0x01 [0x02] = buildFrame 0x01 [0x02] := by simp [zeros_length]
theorem witness_OperandRangeFailsBeforeAnyEffect : 254 < (zeros 254).length + 1 := by simp [zeros_length]
/-- the first reserved code, and the last with operands that OPERAND_RANGE would refuse of an operation -/
theorem witness_ReservedCodesEndUnsupported :
    (7 ≤ (0x7 : BitVec 4).toNat ∧ (facing (.present (.port ⟨0x7, 0, [], .finite 0⟩))).lstate = .idle ∧
      (facing (.present (.port ⟨0x7, 0, [], .finite 0⟩))).inputs = .present (.port ⟨0x7, 0, [], .finite 0⟩) :: []) ∧
    (7 ≤ (0xF : BitVec 4).toNat ∧ (zeros 65535).length ≤ 65535 ∧
      (facing (.present (.port ⟨0xF, 0xFF, zeros 65535, .unbounded⟩))).lstate = .idle ∧
      (facing (.present (.port ⟨0xF, 0xFF, zeros 65535, .unbounded⟩))).inputs
        = .present (.port ⟨0xF, 0xFF, zeros 65535, .unbounded⟩) :: []) ∧
    Instr.reservedF.isReserved = true := by
  simp [zeros_length, facing, State.reset, Instr.isReserved]
/-- a read of 6 with 6 bytes there, one with 5, one of nothing -/
theorem witness_ReadTakesTheOldestBytes :
    (((withRx [1, 2, 3, 4, 5, 6]).drawAt 0).reset = false ∧ 6 ≤ (withRx [1, 2, 3, 4, 5, 6]).queued.length) ∧
    (((withRx [1, 2, 3, 4, 5]).drawAt 0).reset = false ∧ (withRx [1, 2, 3, 4, 5]).queued.length < 6) ∧
    Bounded (withRx []).timeout :=
  ⟨by decide, by decide, 1, rfl⟩
theorem witness_ParseFrameCompletes :
    (zeros 65535).length ≤ 65535 ∧ Bounded (withRx s6Frame).timeout ∧ (withRx s6Frame).NoReset 3 :=
  ⟨(zeros_length _).le, ⟨1, rfl⟩, withRx_noReset _ _ (by omega)⟩
/-- the ways a parse goes: no byte, five bytes, `LEN` 0 without and with its postamble, a body one byte short, a frame
without its postamble, the shortest frame -/
theorem witness_ParseFollowsItsReads :
    (withRx [1, 2, 3, 4, 5]).NoReset 3 ∧
    ([[], [1, 2, 3, 4, 5], Config.ack, Config.ack ++ [0x01], [0x00, 0x00, 0xFF, 0x02, 0xFE, 0xD5, 0x07],
        [0x00, 0x00, 0xFF, 0x01, 0xFF, 0xD4, 0x2B], [0x00, 0x00, 0xFF, 0x01, 0xFF, 0xD5, 0x2B, 0x00]].map fun b =>
      (stateOf (exec .parseFrame (withRx b))).map (fun t => (t.result, t.trace.drop 1)))
    = [some (⟨.noResponse, 0⟩, []), some (⟨.fail .parseError, 0⟩, []),
      some (⟨.fail .parseError, 0b000100⟩, [.rx 1 []]), some (⟨.ok [], 0b100100⟩, [.rx 1 [0x01]]),
      some (⟨.fail .parseError, 0⟩, [.rx 2 [0x07]]), some (⟨.fail .parseError, 0b011000⟩, [.rx 1 [0x2B], .rx 1 []]),
      some (⟨.ok [], 0⟩, [.rx 1 [0x2B], .rx 1 [0x00]])] :=
  ⟨withRx_noReset _ _ (by omega), by decide⟩
/-- the shortest frame with a body and the longest -/
theorem witness_ParseReportsEveryAnomaly :
    (([] : Bytes).length + 1 = (0x01 : Byte).toNat ∧
      (withRx [0x00, 0x00, 0xFF, 0x01, 0x00, 0xD4, 0x2B, 0x00]).NoReset 3 ∧
      (withRx [0x00, 0x00, 0xFF, 0x01, 0x00, 0xD4, 0x2B, 0x00]).rx
        = [0x00, 0x00, 0xFF, 0x01, 0x00, 0xD4] ++ [] ++ [0x2B, 0x00] ++ []) ∧
    (zeros 254).length + 1 = (0xFF : Byte).toNat ∧
      (withRx ([0x00, 0x00, 0xFF, 0xFF, 0x01, 0xD5] ++ zeros 254 ++ [0x2B, 0x00] ++ [0x77])).NoReset 3 ∧
      (withRx ([0x00, 0x00, 0xFF, 0xFF, 0x01, 0xD5] ++ zeros 254 ++ [0x2B, 0x00] ++ [0x77])).rx
        = [0x00, 0x00, 0xFF, 0xFF, 0x01, 0xD5] ++ zeros 254 ++ [0x2B, 0x00] ++ [0x77] :=
  ⟨⟨rfl, withRx_noReset _ _ (by omega), rfl⟩, by rw [zeros_length]; rfl, withRx_noReset _ _ (by omega), rfl⟩
theorem witness_ParseOfZeroLengthReadsNoBody :
    (withRx (Config.ack ++ [0x01])).NoReset 2 ∧
    (withRx (Config.ack ++ [0x01])).rx = [0x00, 0x00, 0xFF, 0, 0xFF, 0x00, 0x01] ++ [] :=
  ⟨withRx_noReset _ _ (by omega), rfl⟩
/-- no byte, and five bytes -/
theorem witness_ParseOfShortHead :
    Bounded (withRx []).timeout ∧ (withRx []).NoReset 1 ∧ (withRx []).rx ++ ((withRx []).drawAt 0).arrived = [] ∧
    (withRx [1, 2, 3, 4, 5]).NoReset 1 ∧
    ((withRx [1, 2, 3, 4, 5]).rx ++ ((withRx [1, 2, 3, 4, 5]).drawAt 0).arrived).length < 6 ∧
    [1, 2, 3, 4, 5] = ((withRx [1, 2, 3, 4, 5]).rx ++ ((withRx [1, 2, 3, 4, 5]).drawAt 0).arrived).take
      ((withRx [1, 2, 3, 4, 5]).drawAt 0).count :=
  ⟨⟨1, rfl⟩, withRx_noReset _ _ (by omega), rfl, withRx_noReset _ _ (by omega), by decide, by decide⟩
/-- a head alone, and a body that lacks one byte -/
theorem witness_ParseOfShortBody :
    Bounded (withRx []).timeout ∧
    ((withRx [0x00, 0x00, 0xFF, 0x01, 0xFF, 0xD5]).NoReset 2 ∧
      (withRx [0x00, 0x00, 0xFF, 0x01, 0xFF, 0xD5]).rx = [0x00, 0x00, 0xFF, 0x01, 0xFF, 0xD5] ++ [] ∧
      ([] : Bytes).length < (0x01 : Byte).toNat) ∧
    (withRx [0x00, 0x00, 0xFF, 0x02, 0xFE, 0xD5, 0x77]).NoReset 2 ∧
      (withRx [0x00, 0x00, 0xFF, 0x02, 0xFE, 0xD5, 0x77]).rx = [0x00, 0x00, 0xFF, 0x02, 0xFE, 0xD5] ++ [0x77] ∧
      ([0x77] : Bytes).length < (0x02 : Byte).toNat :=
  ⟨⟨1, rfl⟩, ⟨withRx_noReset _ _ (by omega), rfl, by decide⟩, withRx_noReset _ _ (by omega), rfl, by decide⟩
theorem witness_ParseWithoutPostamble :
    Bounded (withRx [0x00, 0x00, 0xFF, 0x02, 0xFE, 0xD5, 0x07, 0x24]).timeout ∧
    (withRx [0x00, 0x00, 0xFF, 0x02, 0xFE, 0xD5, 0x07, 0x24]).NoReset 3 ∧
    ([0x07] : Bytes).length + 1 = (0x02 : Byte).toNat ∧
    (withRx [0x00, 0x00, 0xFF, 0x02, 0xFE, 0xD5, 0x07, 0x24]).rx
      = [0x00, 0x00, 0xFF, 0x02, 0xFE, 0xD5] ++ [0x07] ++ [0x24] ∧
    ∀ k, k < 3 → ((withRx [0x00, 0x00, 0xFF, 0x02, 0xFE, 0xD5, 0x07, 0x24]).drawAt k).arrived = [] :=
  ⟨⟨1, rfl⟩, withRx_noReset _ _ (by omega), rfl, rfl, by decide⟩
/-- the longest frame, `LEN` 0, and five bytes -/
theorem witness_ParseLeavesTheBuffers :
    ((withRx ([0x00, 0x00, 0xFF, 0xFF, 0x01, 0xD5] ++ zeros 254 ++ [0x2B, 0x00] ++ [0x77])).NoReset 3 ∧
      (zeros 254).length + 1 = (0xFF : Byte).toNat ∧ ([0x2B, 0x00] : Bytes).length = 2) ∧
    ((withRx (Config.ack ++ [0x01])).NoReset 2 ∧
      (withRx (Config.ack ++ [0x01])).rx = [0x00, 0x00, 0xFF, 0, 0xFF, 0x00, 0x01] ++ []) ∧
    Bounded (withRx [1, 2, 3, 4, 5]).timeout ∧ (withRx [1, 2, 3, 4, 5]).NoReset 1 ∧
      ((withRx [1, 2, 3, 4, 5]).rx ++ ((withRx [1, 2, 3, 4, 5]).drawAt 0).arrived).length < 6 :=
  ⟨⟨withRx_noReset _ _ (by omega), by rw [zeros_length]; rfl, rfl⟩, ⟨withRx_noReset _ _ (by omega), rfl⟩, ⟨1, rfl⟩,
    withRx_noReset _ _ (by omega), by decide⟩
theorem witness_BuiltFrameParsesToItsPayload :
    (zeros 253).length + 1 ≤ 254 ∧ (withRx (buildFrame 0x01 (zeros 253) ++ [0x77])).NoReset 3 ∧
    (withRx (buildFrame 0x01 (zeros 253) ++ [0x77])).rx = buildFrame 0x01 (zeros 253) ++ [0x77] :=
  ⟨by simp [zeros_length], withRx_noReset _ _ (by omega), rfl⟩
theorem witness_DeviceFrameParsesClean :
    (zeros 254).length ≤ 254 ∧ (withRx []).rx = [] ∧ (withRx []).NoReset 3 ∧
    ∃ u, exec (.frameDeviceToHost (zeros 254)) (withRx []) = .next u :=
  ⟨by simp [zeros_length], rfl, withRx_noReset _ _ (by omega), _, rfl⟩

theorem witness_CallCompletesAndAcksWhatItParsed :
    (zeros 253).length + 1 ≤ 254 ∧ Bounded (.finite 0) ∧ (answering []).NoReset 5 :=
  ⟨by simp [zeros_length], ⟨0, rfl⟩, answering_noReset _ _ (by omega)⟩
/-- an answer with all six anomalies, and a byte too many -/
theorem witness_CallReportsEveryAnomaly :
    ([] : Bytes).length + 1 ≤ 254 ∧
    (answering [1, 2, 3, 4, 5, 6, 0, 0, 0xFE, 0x01, 0x00, 0xD4, 0x00, 0x01, 0x77]).NoReset 5 ∧
    ([] : Bytes).length + 1 = (0x01 : Byte).toNat ∧
    (answering [1, 2, 3, 4, 5, 6, 0, 0, 0xFE, 0x01, 0x00, 0xD4, 0x00, 0x01, 0x77]).arrivedBy 4
      = [1, 2, 3, 4, 5, 6] ++ [0, 0, 0xFE, 0x01, 0x00, 0xD4] ++ [] ++ [0x00, 0x01] ++ [0x77] ∧
    6 ≤ ((answering [1, 2, 3, 4, 5, 6, 0, 0, 0xFE, 0x01, 0x00, 0xD4, 0x00, 0x01, 0x77]).arrivedBy 1).length ∧
    12 ≤ ((answering [1, 2, 3, 4, 5, 6, 0, 0, 0xFE, 0x01, 0x00, 0xD4, 0x00, 0x01, 0x77]).arrivedBy 2).length ∧
    12 + (0x01 : Byte).toNat
      ≤ ((answering [1, 2, 3, 4, 5, 6, 0, 0, 0xFE, 0x01, 0x00, 0xD4, 0x00, 0x01, 0x77]).arrivedBy 3).length :=
  ⟨by decide, answering_noReset _ _ (by omega), by decide, by decide, by decide, by decide, by decide⟩
theorem witness_CleanCallDeliversThePayload :
    ([] : Bytes).length + 1 ≤ 254 ∧ s6Payload.length ≤ 254 ∧
    (answering (Config.ack ++ deviceFrame s6Payload)).NoReset 5 ∧
    (answering (Config.ack ++ deviceFrame s6Payload)).arrivedBy 4 = Config.ack ++ deviceFrame s6Payload ∧
    6 ≤ ((answering (Config.ack ++ deviceFrame s6Payload)).arrivedBy 1).length ∧
    12 ≤ ((answering (Config.ack ++ deviceFrame s6Payload)).arrivedBy 2).length ∧
    13 + s6Payload.length ≤ ((answering (Config.ack ++ deviceFrame s6Payload)).arrivedBy 3).length :=
  ⟨by decide, by decide, answering_noReset _ _ (by omega), by decide, by decide, by decide, by decide⟩
theorem witness_CallEventsFollowTheEnding :
    (zeros 253).length + 1 ≤ 254 ∧ (answering (Config.ack ++ s6Frame)).NoReset 5 ∧
    ∃ t, exec (.transact 0x01 (zeros 253) (.finite 9)) (answering (Config.ack ++ s6Frame)) = .next t :=
  ⟨by simp [zeros_length], answering_noReset _ _ (by omega), by
    simp [exec, execTransact, payloadFits, zeros_length, Config.maxPayload, finish]⟩
/-- every ending of the statement: empty head, partial head, short body, missing postamble with and without a body,
parsed with and without a body -/
theorem witness_CallEventsFollowTheEnding_endings :
    ([[], [0x00], [0x00, 0x00, 0xFF, 0x02, 0xFE, 0xD5, 0x07], [0x00, 0x00, 0xFF, 0x01, 0xFF, 0xD5, 0x2B],
        Config.ack, [0x00, 0x00, 0xFF, 0x01, 0xFF, 0xD5, 0x2B, 0x00], Config.ack ++ [0x00]].map fun b =>
      (stateOf (exec (.transact 0x01 [] (.finite 9)) (answering (Config.ack ++ b)))).map
        (fun t => (t.result.ending, (accesses t.trace).drop 4)))
    = [some (.noResponse, []), some (.fail .parseError, []), some (.fail .parseError, [.rx 2 [0x07]]),
      some (.fail .parseError, [.rx 1 [0x2B], .rx 1 []]), some (.fail .parseError, [.rx 1 []]),
      some (.ok [], [.rx 1 [0x2B], .rx 1 [0x00], .tx Config.ack]),
      some (.ok [], [.rx 1 [0x00], .tx Config.ack])] := by decide
theorem witness_CallPassesTheLinkStates :
    ([] : Bytes).length + 1 ≤ 254 ∧ (answering []).NoReset 5 ∧
    ∃ t, exec (.transact 0x01 [] (.finite 9)) (answering []) = .next t :=
  ⟨by decide, answering_noReset _ _ (by omega), _, rfl⟩
theorem witness_CallLeavesTheBuffers :
    (zeros 253).length + 1 ≤ 254 ∧ (answering (Config.ack ++ s6Frame)).NoReset 5 ∧
    ∃ t, exec (.transact 0x01 (zeros 253) (.finite 9)) (answering (Config.ack ++ s6Frame)) = .next t :=
  witness_CallEventsFollowTheEnding
theorem witness_StrictModeChangesTheResultOnly :
    (answering (Config.ack ++ s6Frame)).NoReset 5 ∧
    (∃ t, exec (.transact 0x01 [] (.finite 9)) { answering (Config.ack ++ s6Frame) with strict := false } = .next t) ∧
    ∃ t, exec .parseFrame { answering (Config.ack ++ s6Frame) with strict := false } = .next t :=
  ⟨answering_noReset _ _ (by omega), ⟨_, rfl⟩, _, rfl⟩
/-- a device that always waits, and sends nothing -/
theorem witness_AbortedCallLeavesTheDeviceWaiting :
    ∃ s : State, s.NoReset 5 ∧ (∀ k, k < 5 → (s.drawAt k).waits = true) ∧
      ∃ t, exec (.transact 0x01 [] (.finite 9)) s = .next t := by
  refine ⟨{ State.reset with draws := List.replicate 5 { brings [] with waits := true } }, ?_, by decide, _, rfl⟩
  exact noReset_of_script _ 5 (by decide) (by decide)
theorem witness_ReadWithoutBoundNeverReturns :
    ({ withRx [1, 2, 3, 4, 5] with timeout := .unbounded } : State).NoReset 1 ∧
    (({ withRx [1, 2, 3, 4, 5] with timeout := .unbounded } : State).rx ++
      (({ withRx [1, 2, 3, 4, 5] with timeout := .unbounded } : State).drawAt 0).arrived).length < 6 ∧
    (answering [1, 2, 3, 4, 5]).NoReset 2 ∧ ((answering [1, 2, 3, 4, 5]).drawAt 1).arrived.length < 6 :=
  ⟨withRx_noReset [1, 2, 3, 4, 5] 1 (by omega), by decide, answering_noReset _ _ (by omega), by decide⟩
theorem witness_ResetTakesTheListedValues :
    (facing .reset).inputs = .reset :: [] ∧ (zeros 253).length + 1 ≤ 254 ∧
    (({ State.reset with draws := [{ brings [] with reset := true }] } : State).drawAt 0).reset = true ∧
    (({ State.reset with draws := [brings [], { brings [] with reset := true }] } : State).drawAt 1).reset = true ∧
    (stateOf (exec (.transact 0x01 [] (.finite 9))
      { State.reset with draws := [brings [], brings Config.ack, { brings [] with reset := true }] })).map
      State.readResult = some none :=
  ⟨rfl, by simp [zeros_length], by decide, by decide, by decide⟩
/-- a call reset at its head read, at the read after the head, and at the postamble read after the body -/
theorem witness_ResetTakesTheListedValues_reads :
    Bounded (.finite 9) ∧
    ([[brings [], brings [], resets], [brings [], brings (Config.ack ++ s6Frame), brings [], resets],
        [brings [], brings (Config.ack ++ s6Frame), brings [], brings [], resets]].map fun ds =>
      (stateOf (exec (.transact 0x01 [] (.finite 9)) { State.reset with draws := ds })).map
        fun t => (t.readResult, t.drawCount)) = [some (none, 3), some (none, 4), some (none, 5)] ∧
    12 + (((answering (Config.ack ++ s6Frame)).arrivedBy 2).getD 9 0).toNat
      ≤ ((answering (Config.ack ++ s6Frame)).arrivedBy 3).length :=
  ⟨⟨9, rfl⟩, by decide, by decide⟩
/-- a parse reset at each of its three reads -/
theorem witness_ResetAbandonsAParse :
    ([[resets], [brings [], resets], [brings [], brings [], resets]].map fun ds =>
      (stateOf (exec .parseFrame { State.reset with rx := s6Frame, draws := ds })).map
        fun t => (t.readResult, t.drawCount)) = [some (none, 1), some (none, 2), some (none, 3)] ∧
    6 ≤ ((withRx s6Frame).queueAfter 1).length ∧
    6 + (((withRx s6Frame).queueAfter 1).getD 3 0).toNat ≤ ((withRx s6Frame).queueAfter 2).length := by decide
theorem witness_FormsFromTheDeviceArrive : (zeros 254).length ≤ 254 := (zeros_length _).le
/-- the form waits to be sent; and it does not -/
theorem witness_FormsToTheDeviceAreCarried :
    (([] : Bytes).length + 1 ≤ 254 ∧
      ({ State.reset with txUnsent := buildFrame 0x01 [] ++ Config.ack } : State).txUnsent
        = buildFrame 0x01 [] ++ Config.ack) ∧
    ({ State.reset with txUnsent := Config.ack } : State).txUnsent = [0x00, 0x00, 0xFF, 0x00, 0xFF, 0x00] ++ [] ∧
    ¬ (buildFrame 0x01 [] <+: State.reset.txUnsent) ∧ ¬ (Config.ack <+: State.reset.txUnsent) := by decide
theorem witness_StepRunsTheDecodedInstruction :
    (facing (.present (.port ⟨0x2, 0x06, [], .finite 0⟩))).lstate = .idle ∧
    (facing (.present (.port ⟨0x2, 0x06, [], .finite 0⟩))).inputs = [.present (.port ⟨0x2, 0x06, [], .finite 0⟩)] ∧
    decode (.port ⟨0x2, 0x06, [], .finite 0⟩) = .ok (.lcs 0x06) ∧
    (facing (.present (.line .toHost Config.ack))).inputs = [.present (.line .toHost Config.ack)] ∧
    decode (.line .toHost Config.ack) = .ok (.frameAck .toHost) := by decide
theorem witness_RequestOutsideIdleIsRefused :
    ({ facing (.present (.port ⟨0x2, 0x06, [], .finite 0⟩)) with lstate := .frameSent } : State).lstate ≠ .idle ∧
    ({ facing (.present (.port ⟨0x2, 0x06, [], .finite 0⟩)) with lstate := .frameSent } : State).inputs
      = [.present (.port ⟨0x2, 0x06, [], .finite 0⟩)] := by
  decide
/-- no input; STRICT; bytes that are no form, from the device and to it, unsent and not; 65536 bytes of DIN -/
theorem witness_StepOnTheOtherInputs :
    State.reset.inputs = [] ∧ (facing (.strict true)).inputs = [.strict true] ∧
    (facing (.present (.line .toHost [0x00]))).inputs = [.present (.line .toHost [0x00])] ∧
    decode (.line .toHost [0x00]) = .error .wireTooShort ∧
    (facing (.present (.line .toDevice [0x00]))).inputs = [.present (.line .toDevice [0x00])] ∧
    decode (.line .toDevice [0x00]) = .error .wireTooShort ∧
    ({ facing (.present (.line .toDevice [0x00])) with txUnsent := [0x00, 0x77] } : State).txUnsent = [0x00] ++ [0x77] ∧
    ¬ ([0x00] <+: (facing (.present (.line .toDevice [0x00]))).txUnsent) ∧
    (facing (.present (.port ⟨0x0, 0, zeros 65536, .finite 0⟩))).lstate = .idle ∧
    (facing (.present (.port ⟨0x0, 0, zeros 65536, .finite 0⟩))).inputs
      = [.present (.port ⟨0x0, 0, zeros 65536, .finite 0⟩)] ∧ 65535 < (zeros 65536).length :=
  ⟨rfl, rfl, rfl, by decide, rfl, by decide, rfl, by decide, rfl, rfl, by simp [zeros_length]⟩
theorem reset_inv : State.reset.Inv := by
  constructor <;> simp [State.reset, State.dlen, writtenBy]
theorem witness_StepKeepsTheInvariant : State.reset.Inv ∧ step State.reset = .next State.reset := ⟨reset_inv, rfl⟩
theorem witness_EveryRegisterHasItsWriters :
    (answering []).NoReset 5 ∧ ∃ t, exec (.dcs 0xD4 [0x01]) (answering []) = .next t :=
  ⟨answering_noReset _ _ (by omega), _, rfl⟩
theorem witness_StreamsOnlyGrow :
    (answering Config.ack).NoReset 5 ∧
    ∃ t, exec (.transact 0x01 [] (.finite 9)) (answering Config.ack) = .next t :=
  ⟨answering_noReset _ _ (by omega), _, rfl⟩
/-- two states that differ in what earlier operations left -/
theorem witness_ParseReadsNoLeftovers :
    (withRx s6Frame).NoReset 3 ∧
    ({ withRx s6Frame with crc := 0, sum := 0x77, anom := 0b111111, head := [0x01], pay := [0x02], tx := [0x03] } :
      State).rx = (withRx s6Frame).rx ∧
    ∃ t, exec .parseFrame (withRx s6Frame) = .next t :=
  ⟨withRx_noReset _ _ (by omega), rfl, _, rfl⟩
theorem witness_CallSeesNothingOfEarlierCalls :
    ([] : Bytes).length + 1 ≤ 254 ∧ (answering (Config.ack ++ s6Frame)).NoReset 5 ∧
    ({ answering (Config.ack ++ s6Frame) with timeout := .unbounded, rx := [0x77], anom := 0b111111 } : State).draws
      = (answering (Config.ack ++ s6Frame)).draws ∧
    ∃ t, exec (.transact 0x01 [] (.finite 9)) (answering (Config.ack ++ s6Frame)) = .next t :=
  ⟨by decide, answering_noReset _ _ (by omega), rfl, _, rfl⟩

end Sys2Proof.Tests
end

/-! SUPPORT. What an instruction and a step can do, said once: the effect of every instruction, the ways a parse and a
call end, and what no reset input on the way excludes. -/

namespace Sys2Proof.Machine

/-! ### How a reading operation answers -/

/-- A reading operation that has come to an end answers its state under every timeout. -/
theorem finish_done (tmo : Duration) (t : State) : finish tmo (.done t) = .next t := by
  cases tmo <;> rfl

/-- A reading operation that hangs only without bound answers exactly where it has come to an end. -/
theorem finish_next_done {tmo : Duration} {e : Ended} {t : State}
    (hung : ∀ u, e = .hung u → tmo = .unbounded) (h : finish tmo e = .next t) : e = .done t := by
  obtain ⟨ht, hdone⟩ := finish_next tmo e t h
  cases e with
  | done u => rw [ht]; rfl
  | hung u =>
    obtain ⟨v, hv⟩ := hdone (hung u rfl)
    cases hv

/-- However a parse ends, it has read and validated. -/
theorem reads_of_parse {s : State} {P : Parse} (h : s.parseFrame = P) : Reads s P.state :=
  h ▸ reads_parseFrame s

/-- A PARSE_FRAME hangs only under a timeout without bound. -/
theorem runParse_hung {s u : State} (h : s.runParse = .hung u) : s.timeout = .unbounded := by
  unfold State.runParse at h
  split at h <;> cases h
  next hp => exact parseFrame_hung (s := s.clearAnom) hp

/-- The endings of a PARSE_FRAME (43_frame_parse.md R101). -/
inductive ParseEnds (s : State) : State → Prop where
  | delivered (p : Bytes) (u : State) (h : s.clearAnom.parseFrame = .payload p u) : ParseEnds s (u.deliver p)
  | silent (u : State) (h : s.clearAnom.parseFrame = .noResponse u) : ParseEnds s (u.setResult .noResponse)
  | broken (u : State) (h : s.clearAnom.parseFrame = .parseError u) : ParseEnds s (u.failWith .parseError)
  | abandoned (u : State) (h : s.clearAnom.parseFrame = .abandoned u) : ParseEnds s u.resetBlock

theorem runParse_done {s t : State} (h : s.runParse = .done t) : ParseEnds s t := by
  unfold State.runParse at h
  split at h <;> cases h
  next p u hp => exact .delivered p u hp
  next u hp => exact .silent u hp
  next u hp => exact .broken u hp
  next u hp => exact .abandoned u hp

/-! ### The course of a call -/

/-- The state of a call as its ACK read starts (44_link_transaction.md R104, R106). -/
def State.awaitAck (s : State) (c : Byte) (a : Bytes) (tmo : Duration) : State :=
  ((s.openCall tmo).sendFrame c a).setLink .ackAwaited

/-- The state of a call as its head read starts, the ACK read having ended in `s`. -/
def State.awaitResponse (s : State) : State := (s.setLink .ackVerified).setLink .responseAwaited

/-- A payload has been parsed: the ACK is written back and the call is in `IDLE` again (44_link_transaction.md R110). -/
def State.ackResponse (s : State) : State := (s.txWriteAck.setLink .responseParsed).setLink .idle

/-- The endings of a call (44_link_transaction.md R104), and the two places before its response where the reset input
abandons it (70_reset_and_hazards.md R157). -/
inductive CallEnds (s : State) (c : Byte) (a : Bytes) (tmo : Duration) : State → Prop where
  | resetAtFlush (hr : s.nextDraw.reset = true) : CallEnds s c a tmo (s.openCall tmo).resetBlock
  | resetAtAck (u : State) (hr : s.nextDraw.reset = false) (hack : (s.awaitAck c a tmo).ackCheck = .abandoned u) :
      CallEnds s c a tmo u.resetBlock
  | delivered (r : Bytes) (u : State) (p : Bytes) (v : State) (hr : s.nextDraw.reset = false)
      (hack : (s.awaitAck c a tmo).ackCheck = .got r u) (h : u.awaitResponse.parseFrame = .payload p v) :
      CallEnds s c a tmo (v.ackResponse.deliver p)
  | silent (r : Bytes) (u v : State) (hr : s.nextDraw.reset = false)
      (hack : (s.awaitAck c a tmo).ackCheck = .got r u) (h : u.awaitResponse.parseFrame = .noResponse v) :
      CallEnds s c a tmo ((v.setLink .idle).setResult .noResponse)
  | broken (r : Bytes) (u v : State) (hr : s.nextDraw.reset = false)
      (hack : (s.awaitAck c a tmo).ackCheck = .got r u) (h : u.awaitResponse.parseFrame = .parseError v) :
      CallEnds s c a tmo (v.failCall .parseError)
  | abandoned (r : Bytes) (u v : State) (hr : s.nextDraw.reset = false)
      (hack : (s.awaitAck c a tmo).ackCheck = .got r u) (h : u.awaitResponse.parseFrame = .abandoned v) :
      CallEnds s c a tmo v.resetBlock

/-- The reset input at the flush is that of the next draw. -/
theorem resetAtFlush_eq (s : State) : s.resetAtFlush = s.nextDraw.reset := by
  simp [State.resetAtFlush, Config.flushBeforeSend]

theorem runTransact_done {s t : State} {c : Byte} {a : Bytes} {tmo : Duration}
    (h : s.runTransact c a tmo = .done t) : CallEnds s c a tmo t := by
  unfold State.runTransact at h
  rw [resetAtFlush_eq] at h
  split at h
  next hr => cases h; exact .resetAtFlush hr
  next hr =>
    have hr : s.nextDraw.reset = false := by simpa using hr
    split at h
    next r u hack =>
      unfold Parse.endCall at h
      split at h <;> cases h
      next p v hp => exact .delivered r u p v hr hack hp
      next v hp => exact .silent r u v hr hack hp
      next v hp => exact .broken r u v hr hack hp
      next v hp => exact .abandoned r u v hr hack hp
    next u hack => cases h; exact .resetAtAck u hr hack
    next => cases h

/-- As its ACK read starts a call runs under its own timeout (44_link_transaction.md R112). -/
theorem awaitAck_timeout (s : State) (c : Byte) (a : Bytes) (tmo : Duration) :
    (s.awaitAck c a tmo).timeout = tmo := rfl

/-- The ACK comparison reads and validates. -/
theorem reads_ackCheck_got {s : State} {r : Bytes} {t : State} (h : s.ackCheck = .got r t) : Reads s t := by
  obtain ⟨u, hu, rfl⟩ := ackCheck_got s r t h
  exact (reads_rxRead_got s 6 (by omega) r u hu).trans (reads_check ..)

theorem ackCheck_abandoned {s t : State} (h : s.ackCheck = .abandoned t) : s.rxRead 6 = .abandoned t := by
  unfold State.ackCheck at h
  split at h <;> cases h
  assumption

theorem ackCheck_hung {s t : State} (h : s.ackCheck = .hung t) : s.timeout = .unbounded := by
  unfold State.ackCheck at h
  split at h <;> cases h
  next h => exact (rxRead_hung _ _ _ h).2.1

theorem endCall_hung {P : Parse} {t : State} (h : P.endCall = .hung t) : P = .hung t := by
  cases P <;> cases h
  rfl

/-- A call hangs only under a timeout without bound. -/
theorem runTransact_hung {s u : State} {c : Byte} {a : Bytes} {tmo : Duration}
    (h : s.runTransact c a tmo = .hung u) : tmo = .unbounded := by
  unfold State.runTransact at h
  split at h
  · cases h
  split at h
  next r v hack =>
    have hv : v.timeout = tmo := (reads_ackCheck_got hack).timeout.trans (awaitAck_timeout s c a tmo)
    exact hv.symm.trans (parseFrame_hung (s := v.awaitResponse) (endCall_hung h))
  next => cases h
  next v hack => exact ackCheck_hung hack

/-! ### The effect of every instruction -/

/-- Everything an instruction can do when it answers a next state. -/
inductive Effect (s : State) : Instr → State → Prop where
  | crcA (d : Bytes) : Effect s (.crcA d) ((s.runCrc d).setResult (.ok (crcA d)))
  | withCrcA (d : Bytes) : Effect s (.withCrcA d) ((s.runCrc d).setResult (.ok (withCrcA d)))
  | lcs (l : Byte) : Effect s (.lcs l) (s.setResult (.ok [Machine.lcs l]))
  | dcs (m : Byte) (p : Bytes) :
      Effect s (.dcs m p) ((s.runSum m p).setResult (.ok [Machine.lcs (accumulate m p)]))
  | built (c : Byte) (a : Bytes) (fits : payloadFits a = true) :
      Effect s (.buildFrame c a) ((s.buildTx c a).setResult (.ok (buildFrame c a)))
  /-- a reserved code, or a payload that cannot be framed -/
  | failed (i : Instr) (r : Reason) : Effect s i (s.failWith r)
  | parsed (t : State) (h : ParseEnds s t) : Effect s .parseFrame t
  | called (c : Byte) (a : Bytes) (tmo : Duration) (t : State) (fits : payloadFits a = true)
      (h : CallEnds s c a tmo t) : Effect s (.transact c a tmo) t
  /-- a wire form that reaches the device -/
  | carried (i : Instr) (b : Bytes) (hi : i.isOperation = false) (h : b <+: s.txUnsent) :
      Effect s i { s with txUnsent := s.txUnsent.drop b.length, txSent := s.txSent ++ b }
  /-- a wire form that comes from the device -/
  | arrived (i : Instr) (b : Bytes) (w : Bool) (hi : i.isOperation = false) :
      Effect s i { s with rx := s.rx ++ b, deviceWait := w }

theorem effect_of_carry {s t : State} {i : Instr} {b : Bytes} (hi : i.isOperation = false) (h : s.carry b = .next t) :
    Effect s i t := by
  obtain ⟨hb, rfl⟩ := carry_next s b t h
  exact .carried i b hi hb

theorem exec_effect {i : Instr} {s t : State} (h : exec i s = .next t) : Effect s i t := by
  cases i with
  | crcA d => cases h; exact .crcA d
  | withCrcA d => cases h; exact .withCrcA d
  | lcs l => cases h; exact .lcs l
  | dcs m p => cases h; exact .dcs m p
  | buildFrame c a =>
    simp only [exec, execBuildFrame] at h
    split at h <;> cases h
    next fits => exact .built c a fits
    next => exact .failed _ .operandRange
  | parseFrame => exact .parsed t (runParse_done (finish_next_done (fun _ => runParse_hung) h))
  | transact c a tmo =>
    simp only [exec, execTransact] at h
    split at h
    next fits => exact .called c a tmo t fits (runTransact_done (finish_next_done (fun _ => runTransact_hung) h))
    next => cases h; exact .failed _ .operandRange
  | reserved7 | reserved8 | reserved9 | reservedA | reservedB | reservedC | reservedD | reservedE | reservedF =>
    cases h; exact .failed _ .unsupportedOperation
  | frameHostToDevice c a => exact effect_of_carry rfl h
  | frameDeviceToHost p => cases h; exact .arrived _ (deviceFrame p) true rfl
  | frameAck dir =>
    cases dir with
    | toDevice => exact effect_of_carry rfl h
    | toHost => cases h; exact .arrived _ Config.ack s.deviceWait rfl

/-! ### Steps -/

/-- A step with no input changes nothing (60_exceptions.md R149). -/
theorem step_idle {s : State} (h : s.inputs = []) : step s = .next s := by
  simp [step, State.takeInput, h]

/-- A step takes the next input and handles it. -/
theorem step_input {s : State} {x : Input} {rest : List Input} (h : s.inputs = x :: rest) :
    step s = State.handle { s with inputs := rest } x := by
  simp [step, State.takeInput, h]

theorem sample_eq (s : State) (i : Instr) (w : PortWord) :
    s.sample i w = { s with latches := if i.isOperation then w else s.latches } := by
  unfold State.sample
  split <;> rfl

/-- A request the port can carry decodes, and a longer one does not (30_encoding.md R53). -/
theorem decode_port_ok {w : PortWord} {i : Instr} (h : decode (.port w) = .ok i) : w.din.length ≤ 65535 := by
  simp only [decode, decodePort] at h
  split at h
  next hw => exact hw
  next => cases h

theorem decode_port_tooLong {w : PortWord} (h : 65535 < w.din.length) : decode (.port w) = .error .dinTooLong := by
  simp only [decode, decodePort]
  exact if_neg (by simpa [Config.maxDin] using h)

/-- An accepted request runs its instruction with the operands sampled. -/
theorem request_idle {s : State} {w : PortWord} {i : Instr} (hi : s.lstate = .idle)
    (hd : decode (.port w) = .ok i) : s.request w = exec i (s.sample i w) := by
  simp [State.request, hi, hd]

/-- What a request that answers a next state is. -/
theorem request_next {s t : State} {w : PortWord} (h : s.request w = .next t) :
    ∃ i, decode (.port w) = .ok i ∧ exec i (s.sample i w) = .next t := by
  unfold State.request at h
  split at h
  · split at h
    next i hd => exact ⟨i, hd, h⟩
    next => cases h
  · cases h

/-- A wire form on the line runs as its instruction. -/
theorem transfer_form {s : State} {dir : Direction} {b : Bytes} {i : Instr} (hd : decode (.line dir b) = .ok i) :
    s.transfer dir b = exec i s := by
  simp [State.transfer, hd]

/-- Bytes on the line that are no form travel as bytes. -/
theorem transfer_bytes {s : State} {dir : Direction} {b : Bytes} {r : Reject}
    (hd : decode (.line dir b) = .error r) : s.transfer dir b = s.lineBytes dir b := by
  simp [State.transfer, hd]

/-- The next unsent bytes are carried to the device (20_memory.md R47). -/
theorem carry_unsent {s : State} {b more : Bytes} (h : s.txUnsent = b ++ more) :
    s.carry b = .next { s with txUnsent := more, txSent := s.txSent ++ b } := by
  simp [State.carry, h]

/-- Bytes that are not the next unsent ones are refused. -/
theorem carry_refused {s : State} {b : Bytes} (h : ¬ b <+: s.txUnsent) : s.carry b = .refused .notOnTheLine := by
  have hb : b.isPrefixOf s.txUnsent = false := by
    rw [← Bool.not_eq_true, List.isPrefixOf_iff_prefix]; exact h
  simp [State.carry, hb]

end Sys2Proof.Machine

namespace Sys2Proof.Proofs

open Sys2Proof.Machine

/-- Settles O42: the step is the handling of the input, and that is `exec` of the decoded instruction. -/
theorem stepRunsTheDecodedInstruction : Obligations.StepRunsTheDecodedInstruction := by
  constructor
  · intro s w i rest hin hidle hdec
    rw [step_input hin, State.handle, request_idle (s := { s with inputs := rest }) hidle hdec, sample_eq]
  · intro s dir b i rest hin hdec
    rw [step_input hin, State.handle, transfer_form hdec]

/-- Settles O44, input by input. -/
theorem stepOnTheOtherInputs : Obligations.StepOnTheOtherInputs := by
  refine ⟨fun s => step_idle, ?strict, ?fromDevice, ?carried, ?refused, ?tooLong⟩
  case strict =>
    intro s on rest hin
    rw [step_input hin, State.handle]
  case fromDevice =>
    intro s b r rest hin hdec
    rw [step_input hin, State.handle, transfer_bytes hdec]
    rfl
  case carried =>
    intro s b more r rest hin hdec hun
    rw [step_input hin, State.handle, transfer_bytes hdec, State.lineBytes,
      carry_unsent (s := { s with inputs := rest }) hun]
  case refused =>
    intro s b r rest hin hdec hun
    rw [step_input hin, State.handle, transfer_bytes hdec, State.lineBytes,
      carry_refused (s := { s with inputs := rest }) hun]
  case tooLong =>
    intro s w rest hin hidle hlen
    rw [step_input hin, State.handle]
    simp [State.request, hidle, decode_port_tooLong hlen]

end Sys2Proof.Proofs

/-! SUPPORT. The invariant of the whole machine: its parts that hold at every point of an operation, what keeps them, and
from them that every step keeps the invariant. -/

namespace Sys2Proof.Machine

/-- The parts of `State.Inv` that hold at every point of an operation, also where `lstate` is not `IDLE` and no result
stands yet. -/
structure State.WithinBounds (s : State) : Prop where
  txbuf : s.txbuf.length ≤ 262
  head : s.head.length ≤ 6
  pay : s.pay.length ≤ 254
  dlen : s.latches.din.length ≤ 65535
  tx : s.tx = writtenBy s.trace
  trace : ∀ e, e ∈ s.trace → e.Lawful

theorem State.Inv.withinBounds {s : State} (h : s.Inv) : s.WithinBounds :=
  ⟨h.txbuf, h.head, h.pay, h.dlen, h.tx, h.trace⟩

/-- An operation that has ended in `IDLE` with a result has the invariant. -/
theorem State.WithinBounds.inv {s : State} (h : s.WithinBounds) (hidle : s.lstate = .idle)
    (hres : s.resultValid = true) : s.Inv :=
  ⟨hidle, h.txbuf, h.head, h.pay, h.dlen, h.tx, h.trace, fun hf => by rw [hres] at hf; cases hf⟩

/-- The history grows by lawful events, TX by what they wrote, and the buffers stay within their capacities. -/
theorem State.WithinBounds.grow {s t : State} (h : s.WithinBounds) (es : List Event)
    (htrace : t.trace = s.trace ++ es) (htx : t.tx = s.tx ++ writtenBy es) (hlawful : ∀ e, e ∈ es → e.Lawful)
    (htxbuf : t.txbuf.length ≤ 262) (hhead : t.head.length ≤ 6) (hpay : t.pay.length ≤ 254)
    (hlatches : t.latches = s.latches) : t.WithinBounds where
  txbuf := htxbuf
  head := hhead
  pay := hpay
  dlen := by rw [hlatches]; exact h.dlen
  tx := by rw [htx, htrace, writtenBy_append, h.tx]
  trace e he := by
    rw [htrace] at he
    rcases List.mem_append.mp he with hold | hnew
    · exact h.trace e hold
    · exact hlawful e hnew

/-- Whatever writes none of the bounded fields keeps the bounds. -/
theorem State.WithinBounds.same {s t : State} (h : s.WithinBounds) (htrace : t.trace = s.trace) (htx : t.tx = s.tx)
    (htxbuf : t.txbuf = s.txbuf) (hhead : t.head = s.head) (hpay : t.pay = s.pay)
    (hlatches : t.latches = s.latches) : t.WithinBounds :=
  h.grow [] (by simp [htrace]) (by simp [htx, writtenBy]) (by simp) (htxbuf ▸ h.txbuf) (hhead ▸ h.head)
    (hpay ▸ h.pay) hlatches

/-- An ending that writes none of the bounded fields, after which `IDLE` and a result stand, has the invariant. -/
theorem State.WithinBounds.inv_of_same {s t : State} (h : s.WithinBounds) (hidle : t.lstate = .idle)
    (hres : t.resultValid = true) (htrace : t.trace = s.trace) (htx : t.tx = s.tx) (htxbuf : t.txbuf = s.txbuf)
    (hhead : t.head = s.head) (hpay : t.pay = s.pay) (hlatches : t.latches = s.latches) : t.Inv :=
  (h.same htrace htx htxbuf hhead hpay hlatches).inv hidle hres

/-- Reads write nothing. -/
theorem writtenBy_of_reads {es : List Event} (h : ∀ e, e ∈ es → ∃ n g, e = .rx n g ∧ n ≤ 255 ∧ g.length ≤ n) :
    writtenBy es = [] := by
  induction es with
  | nil => rfl
  | cons e es ih =>
    obtain ⟨n, g, rfl, -⟩ := h e (by simp)
    exact ih fun e he => h e (by simp [he])

/-- Reading and validating keep the bounds. -/
theorem State.WithinBounds.of_reads {s t : State} (h : s.WithinBounds) (k : Reads s t) : t.WithinBounds := by
  obtain ⟨es, htrace, hes⟩ := k.trace
  refine h.grow es htrace (by rw [k.tx, writtenBy_of_reads hes, List.append_nil]) (fun e he => ?_)
    (k.txbuf ▸ h.txbuf) (k.head h.head) (k.pay h.pay) k.latches
  obtain ⟨n, g, rfl, hn, hg⟩ := hes e he
  exact ⟨hn, hg⟩

/-- The length of a built frame: nine bytes beside its arguments (42_frame_build.md R83). -/
theorem buildFrame_length (c : Byte) (a : Bytes) : (buildFrame c a).length = a.length + 9 := by
  simp [buildFrame, infoFrame, Config.preamble]

/-- A payload that fits is built within the capacity of TXBUF (10_state.md R23). -/
theorem buildFrame_length_le {c : Byte} {a : Bytes} (fits : payloadFits a = true) :
    (buildFrame c a).length ≤ 262 := by
  have ha : a.length + 1 ≤ 254 := by simpa [payloadFits] using fits
  rw [buildFrame_length]
  omega

/-- The events of a call up to its ACK read. -/
theorem awaitAck_trace (s : State) (c : Byte) (a : Bytes) (tmo : Duration) :
    (s.awaitAck c a tmo).trace =
      s.trace ++ [.flush, .tx (buildFrame c a), .link .frameSent, .link .ackAwaited] := by
  simp [State.awaitAck, State.sendFrame, State.openCall, State.buildTx, Config.flushBeforeSend, State.setLink,
    State.txWrite, State.flush]

theorem awaitResponse_trace (s : State) :
    s.awaitResponse.trace = s.trace ++ [.link .ackVerified, .link .responseAwaited] := by
  simp [State.awaitResponse]

theorem ackResponse_trace (s : State) :
    s.ackResponse.trace = s.trace ++ [.tx Config.ack, .link .responseParsed, .link .idle] := by
  simp [State.ackResponse]

theorem State.WithinBounds.awaitAck {s : State} (h : s.WithinBounds) {a : Bytes} (fits : payloadFits a = true)
    (c : Byte) (tmo : Duration) : (s.awaitAck c a tmo).WithinBounds := by
  refine h.grow _ (awaitAck_trace s c a tmo) ?_ ?_ (buildFrame_length_le fits) h.head h.pay rfl
  · simp only [writtenBy, List.append_nil]; rfl
  · simp only [List.mem_cons, List.not_mem_nil, or_false]
    rintro e (rfl | rfl | rfl | rfl)
    · trivial
    · exact .inr ⟨c, a, fits, rfl⟩
    · trivial
    · trivial

theorem State.WithinBounds.awaitResponse {s : State} (h : s.WithinBounds) : s.awaitResponse.WithinBounds :=
  h.grow _ (awaitResponse_trace s) (by simp only [writtenBy, List.append_nil]; rfl) (by simp [Event.Lawful])
    h.txbuf h.head h.pay rfl

theorem State.WithinBounds.ackResponse {s : State} (h : s.WithinBounds) : s.ackResponse.WithinBounds :=
  h.grow _ (ackResponse_trace s) (by simp only [writtenBy, List.append_nil]; rfl) (by simp [Event.Lawful])
    h.txbuf h.head h.pay rfl

theorem State.WithinBounds.setLink {s : State} (h : s.WithinBounds) (l : LinkState) : (s.setLink l).WithinBounds :=
  h.grow [.link l] rfl (by simp [writtenBy]) (by simp [Event.Lawful]) h.txbuf h.head h.pay rfl

theorem State.WithinBounds.deliver {s : State} (h : s.WithinBounds) (p : Bytes) : (s.deliver p).WithinBounds :=
  h.same (by simp) (by simp) (by simp) (by simp) (by simp) (by simp)

/-- From the start of a call to the end of its response read, however that ends. -/
theorem State.WithinBounds.response {s u : State} (h : s.WithinBounds) {c : Byte} {a r : Bytes} {tmo : Duration}
    {P : Parse} (fits : payloadFits a = true) (hack : (s.awaitAck c a tmo).ackCheck = .got r u)
    (hp : u.awaitResponse.parseFrame = P) : P.state.WithinBounds :=
  ((h.awaitAck fits c tmo).of_reads (reads_ackCheck_got hack)).awaitResponse.of_reads (reads_of_parse hp)

/-! ### The invariant -/

theorem inv_reset : State.reset.Inv where
  idle := rfl
  txbuf := Nat.zero_le _
  head := Nat.zero_le _
  pay := Nat.zero_le _
  dlen := Nat.zero_le _
  tx := rfl
  trace _ he := by cases he
  result _ := ⟨rfl, rfl⟩

/-- The invariant says nothing of the environment's streams, of STRICT, or of what the outside will do. -/
theorem State.Inv.outside {s : State} (h : s.Inv) (un se rx : Bytes) (w st : Bool) (ins : List Input)
    (ds : List ChanDraw) (n : Nat) : State.Inv
      { s with txUnsent := un, txSent := se, rx := rx, deviceWait := w, strict := st, inputs := ins,
               draws := ds, drawCount := n } :=
  ⟨h.idle, h.txbuf, h.head, h.pay, h.dlen, h.tx, h.trace, h.result⟩

theorem inv_resetBlock (s : State) : s.resetBlock.Inv :=
  inv_reset.outside s.txUnsent s.txSent s.rx s.deviceWait false s.inputs s.draws s.drawCount

/-- Sampling operands that the port can carry keeps the invariant. -/
theorem State.Inv.sample {s : State} (h : s.Inv) (i : Instr) {w : PortWord} (hw : w.din.length ≤ 65535) :
    (s.sample i w).Inv := by
  have hdlen : (s.sample i w).dlen ≤ 65535 := by
    unfold State.dlen
    rw [sample_latches]
    split
    · exact hw
    · exact h.dlen
  rw [sample_eq] at hdlen ⊢
  exact ⟨h.idle, h.txbuf, h.head, h.pay, hdlen, h.tx, h.trace, h.result⟩

/-- A PARSE_FRAME keeps the invariant however it ends. -/
theorem ParseEnds.inv {s t : State} (k : ParseEnds s t) (h : s.Inv) : t.Inv := by
  have hread {P : Parse} (hp : s.clearAnom.parseFrame = P) : P.state.WithinBounds ∧ P.state.lstate = .idle :=
    have hr : Reads s P.state := (reads_clearAnom s).trans (reads_of_parse hp)
    ⟨h.withinBounds.of_reads hr, hr.lstate.trans h.idle⟩
  cases k with
  | delivered p u hp =>
    obtain ⟨hb, hidle⟩ := hread hp
    exact (hb.deliver p).inv ((deliver_lstate u p).trans hidle) (deliver_resultValid u p)
  | silent u hp => obtain ⟨hb, hidle⟩ := hread hp; exact hb.inv_of_same hidle rfl rfl rfl rfl rfl rfl rfl
  | broken u hp => obtain ⟨hb, hidle⟩ := hread hp; exact hb.inv_of_same hidle rfl rfl rfl rfl rfl rfl rfl
  | abandoned u hp => exact inv_resetBlock u

/-- A call keeps the invariant however it ends. -/
theorem CallEnds.inv {s t : State} {c : Byte} {a : Bytes} {tmo : Duration} (k : CallEnds s c a tmo t)
    (fits : payloadFits a = true) (h : s.Inv) : t.Inv := by
  cases k with
  | resetAtFlush | resetAtAck | abandoned => exact inv_resetBlock _
  | delivered r u p v _ hack hp =>
    have hb : v.WithinBounds := h.withinBounds.response fits hack hp
    exact (hb.ackResponse.deliver p).inv (deliver_lstate v.ackResponse p) (deliver_resultValid _ p)
  | silent r u v _ hack hp =>
    have hb : v.WithinBounds := h.withinBounds.response fits hack hp
    exact (hb.setLink .idle).inv_of_same rfl rfl rfl rfl rfl rfl rfl rfl
  | broken r u v _ hack hp =>
    have hb : v.WithinBounds := h.withinBounds.response fits hack hp
    exact (hb.setLink .idle).inv_of_same rfl rfl rfl rfl rfl rfl rfl rfl

/-- Every instruction keeps the invariant. -/
theorem exec_inv {i : Instr} {s t : State} (h : s.Inv) (hx : exec i s = .next t) : t.Inv := by
  cases exec_effect hx with
  | crcA | withCrcA | lcs | dcs | failed => exact h.withinBounds.inv_of_same h.idle rfl rfl rfl rfl rfl rfl rfl
  | built c a fits =>
    have hb : ((s.buildTx c a).setResult (.ok (buildFrame c a))).WithinBounds :=
      h.withinBounds.grow [] (by simp) (by simp [writtenBy]) (by simp) (buildFrame_length_le fits) h.head h.pay rfl
    exact hb.inv h.idle rfl
  | parsed _ hp => exact hp.inv h
  | called c a tmo _ fits hc => exact hc.inv fits h
  | carried => exact h.outside ..
  | arrived => exact h.outside ..

/-- Every input keeps the invariant. -/
theorem handle_inv {s t : State} {x : Input} (h : s.Inv) (hx : s.handle x = .next t) : t.Inv := by
  cases x with
  | present f =>
    cases f with
    | port w =>
      obtain ⟨i, hd, hi⟩ := request_next hx
      exact exec_inv (h.sample i (decode_port_ok hd)) hi
    | line dir b =>
      cases hd : decode (.line dir b) with
      | ok i => exact exec_inv h ((transfer_form hd).symm.trans hx)
      | error r =>
        replace hx : s.lineBytes dir b = .next t := (transfer_bytes hd).symm.trans hx
        cases dir with
        | toHost => cases hx; exact h.outside ..
        | toDevice =>
          obtain ⟨-, rfl⟩ := carry_next s b t hx
          exact h.outside ..
  | strict on => cases hx; exact h.outside ..
  | reset => cases hx; exact inv_resetBlock s

end Sys2Proof.Machine

namespace Sys2Proof.Proofs

open Sys2Proof.Machine

/-- Settles O45. -/
theorem resetHasTheInvariant : Obligations.ResetHasTheInvariant := inv_reset

/-- Settles O46: with no input nothing changes, and the handling of every input keeps the invariant. -/
theorem stepKeepsTheInvariant : Obligations.StepKeepsTheInvariant := by
  intro s t h hstep
  cases hin : s.inputs with
  | nil => rw [step_idle hin] at hstep; cases hstep; exact h
  | cons x rest =>
    rw [step_input hin] at hstep
    exact handle_inv (s := { s with inputs := rest }) (h.outside ..) hstep

end Sys2Proof.Proofs

/-! SUPPORT. What an operation that no reset input interrupts does to the registers and the streams: which ending it has,
which registers it leaves alone, how TX, the delivered bytes and LOG grow, and what stands in TXBUF and HEAD after a
call. -/

namespace Sys2Proof.Machine

/-! ### No reset on the way -/

theorem noReset_mono {s : State} {n k : Nat} (h : s.NoReset n) (hk : k ≤ n) : s.NoReset k :=
  fun j hj => h j (by omega)

/-- The draws to come are those of the script and the count alone. -/
theorem noReset_congr {s t : State} {n : Nat} (hd : t.draws = s.draws) (hc : t.drawCount = s.drawCount)
    (h : s.NoReset n) : t.NoReset n := by
  intro k hk
  have hk' := h k hk
  simpa only [State.drawAt, hd, hc] using hk'

theorem noReset_nextDraw {s : State} {n : Nat} (h : s.NoReset (n + 1)) : s.nextDraw.reset = false := by
  rw [nextDraw_eq_drawAt]
  exact h 0 (by omega)

theorem noReset_check {s : State} {n : Nat} (h : s.NoReset n) (b : Bool) (f : AnomFlag) : (s.check b f).NoReset n :=
  noReset_congr (check_draws s b f) (check_drawCount s b f) h

theorem noReset_setHead {s : State} {n : Nat} (h : s.NoReset n) (b : Bytes) : (s.setHead b).NoReset n := h

theorem noReset_setPay {s : State} {n : Nat} (h : s.NoReset n) (b : Bytes) : (s.setPay b).NoReset n := h

theorem noReset_takeRx {s : State} {k : Nat} (h : s.NoReset (k + 1)) (n j : Nat) : (s.takeRx n j).NoReset k :=
  noReset_after s _ rfl rfl k h

/-- A read that returns takes one draw. -/
theorem noReset_rxRead_got {s t : State} {n k : Nat} {r : Bytes} (h : s.NoReset (k + 1))
    (hr : s.rxRead n = .got r t) : t.NoReset k := by
  obtain ⟨-, -, -, rfl⟩ := rxRead_got s n r t hr
  exact noReset_takeRx h _ _

theorem noReset_takeBody {s : State} {n : Nat} (h : s.NoReset n) (len m : Byte) (body : Bytes) :
    (s.takeBody len m body).NoReset n :=
  noReset_congr (s := s) (by simp [State.takeBody]) (by simp [State.takeBody]) h

theorem rxRead_not_abandoned {s : State} {k : Nat} (h : s.NoReset (k + 1)) (n : Nat) (t : State) :
    s.rxRead n ≠ .abandoned t := by
  intro hr
  have hreset := (rxRead_abandoned s n t hr).1
  rw [noReset_nextDraw h] at hreset
  cases hreset

theorem parsePostamble_not_abandoned {s : State} (h : s.NoReset 1) (t : State) : s.parsePostamble ≠ .abandoned t := by
  intro hp
  unfold State.parsePostamble at hp
  split at hp <;> cases hp
  next hr => exact rxRead_not_abandoned h 1 t hr

theorem parseBody_not_abandoned {s : State} (h : s.NoReset 2) (len m : Byte) (t : State) :
    s.parseBody len m ≠ .abandoned t := by
  intro hp
  have hc := noReset_check h (m == Config.deviceMarker) .marker
  unfold State.parseBody at hp
  split at hp
  next body u hu =>
    split at hp
    · cases hp
    · exact parsePostamble_not_abandoned (noReset_takeBody (noReset_rxRead_got hc hu) _ _ _) t hp
  next u hu => exact rxRead_not_abandoned hc _ u hu
  next => cases hp

theorem parseHead_not_abandoned {s : State} (h : s.NoReset 2) (b0 b1 b2 len c m : Byte) (t : State) :
    s.parseHead b0 b1 b2 len c m ≠ .abandoned t := by
  intro hp
  have hc := noReset_check (noReset_check h ([b0, b1, b2] == Config.preamble) .pre) (lcsOk len c) .lcs
  unfold State.parseHead at hp
  split at hp
  · exact parsePostamble_not_abandoned (noReset_setPay (noReset_mono hc (by omega)) []) t hp
  · exact parseBody_not_abandoned hc len m t hp

/-- A parse takes at most three draws, so no reset in three means that it is not abandoned. -/
theorem parseFrame_not_abandoned {s : State} (h : s.NoReset 3) (t : State) : s.parseFrame ≠ .abandoned t := by
  intro hp
  unfold State.parseFrame at hp
  split at hp
  next => cases hp
  next u hu => exact parseHead_not_abandoned (noReset_setHead (noReset_rxRead_got h hu) _) _ _ _ _ _ _ t hp
  next => cases hp
  next u hu => exact rxRead_not_abandoned h _ u hu
  next => cases hp

theorem noReset_awaitAck {s : State} {k : Nat} (h : s.NoReset (k + 1)) (c : Byte) (a : Bytes) (tmo : Duration) :
    (s.awaitAck c a tmo).NoReset k :=
  noReset_after s _ rfl rfl k h

theorem noReset_ackCheck_got {s t : State} {k : Nat} {r : Bytes} (h : s.NoReset (k + 1))
    (hack : s.ackCheck = .got r t) : t.NoReset k := by
  obtain ⟨u, hu, rfl⟩ := ackCheck_got s r t hack
  exact noReset_check (noReset_rxRead_got h hu) _ _

/-- The endings of a call that the reset input did not abandon (44_link_transaction.md R104). -/
inductive CallReturns (s : State) (c : Byte) (a : Bytes) (tmo : Duration) : State → Prop where
  | delivered (r : Bytes) (u : State) (p : Bytes) (v : State) (hack : (s.awaitAck c a tmo).ackCheck = .got r u)
      (h : u.awaitResponse.parseFrame = .payload p v) : CallReturns s c a tmo (v.ackResponse.deliver p)
  | silent (r : Bytes) (u v : State) (hack : (s.awaitAck c a tmo).ackCheck = .got r u)
      (h : u.awaitResponse.parseFrame = .noResponse v) :
      CallReturns s c a tmo ((v.setLink .idle).setResult .noResponse)
  | broken (r : Bytes) (u v : State) (hack : (s.awaitAck c a tmo).ackCheck = .got r u)
      (h : u.awaitResponse.parseFrame = .parseError v) : CallReturns s c a tmo (v.failCall .parseError)

/-- A call takes at most five draws, so no reset in five means that it is not abandoned. -/
theorem CallEnds.returns {s t : State} {c : Byte} {a : Bytes} {tmo : Duration} (k : CallEnds s c a tmo t)
    (h : s.NoReset 5) : CallReturns s c a tmo t := by
  have hw := noReset_awaitAck h c a tmo
  cases k with
  | resetAtFlush hr => rw [noReset_nextDraw h] at hr; cases hr
  | resetAtAck u _ hack => exact absurd (ackCheck_abandoned hack) (rxRead_not_abandoned hw 6 u)
  | delivered r u p v _ hack hp => exact .delivered r u p v hack hp
  | silent r u v _ hack hp => exact .silent r u v hack hp
  | broken r u v _ hack hp => exact .broken r u v hack hp
  | abandoned r u v _ hack hp =>
    have hu : u.NoReset 3 := noReset_ackCheck_got hw hack
    exact absurd hp (parseFrame_not_abandoned (s := u.awaitResponse) hu v)

/-! ### Which registers an operation leaves alone -/

/-- The registers and inputs that no operation of the channel writes are those of `s`. -/
structure SameSettings (s t : State) : Prop where
  crc : t.crc = s.crc
  strict : t.strict = s.strict
  latches : t.latches = s.latches
  inputs : t.inputs = s.inputs

theorem SameSettings.trans {s t u : State} (h : SameSettings s t) (k : SameSettings t u) : SameSettings s u :=
  ⟨k.crc.trans h.crc, k.strict.trans h.strict, k.latches.trans h.latches, k.inputs.trans h.inputs⟩

theorem Reads.sameSettings {s t : State} (h : Reads s t) : SameSettings s t := ⟨h.crc, h.strict, h.latches, h.inputs⟩

theorem sameSettings_awaitAck (s : State) (c : Byte) (a : Bytes) (tmo : Duration) :
    SameSettings s (s.awaitAck c a tmo) := ⟨rfl, rfl, rfl, rfl⟩

theorem sameSettings_awaitResponse (s : State) : SameSettings s s.awaitResponse := ⟨rfl, rfl, rfl, rfl⟩

/-- From the start of a call to the end of its response read, however that ends. -/
theorem sameSettings_response {s u : State} {c : Byte} {a r : Bytes} {tmo : Duration} {P : Parse}
    (hack : (s.awaitAck c a tmo).ackCheck = .got r u) (hp : u.awaitResponse.parseFrame = P) :
    SameSettings s P.state :=
  (((sameSettings_awaitAck s c a tmo).trans (reads_ackCheck_got hack).sameSettings).trans
    (sameSettings_awaitResponse u)).trans (reads_of_parse hp).sameSettings

theorem sameSettings_deliver (s : State) (p : Bytes) : SameSettings s (s.deliver p) :=
  ⟨deliver_crc s p, deliver_strict s p, deliver_latches s p, deliver_inputs s p⟩

theorem CallReturns.sameSettings {s t : State} {c : Byte} {a : Bytes} {tmo : Duration}
    (k : CallReturns s c a tmo t) : SameSettings s t := by
  cases k with
  | delivered r u p v hack hp =>
    have hv : SameSettings v v.ackResponse := ⟨rfl, rfl, rfl, rfl⟩
    exact ((sameSettings_response hack hp).trans hv).trans (sameSettings_deliver _ p)
  | silent r u v hack hp => exact (sameSettings_response hack hp).trans ⟨rfl, rfl, rfl, rfl⟩
  | broken r u v hack hp => exact (sameSettings_response hack hp).trans ⟨rfl, rfl, rfl, rfl⟩

/-- The registers of a call's own, which PARSE_FRAME leaves alone with the others (43_frame_parse.md R101). -/
structure SameLink (s t : State) : Prop extends SameSettings s t where
  lstate : t.lstate = s.lstate
  timeout : t.timeout = s.timeout
  txbuf : t.txbuf = s.txbuf
  tx : t.tx = s.tx

theorem Reads.sameLink {s t : State} (h : Reads s t) : SameLink s t :=
  { h.sameSettings with lstate := h.lstate, timeout := h.timeout, txbuf := h.txbuf, tx := h.tx }

theorem SameLink.trans {s t u : State} (h : SameLink s t) (k : SameLink t u) : SameLink s u :=
  ⟨h.toSameSettings.trans k.toSameSettings, k.lstate.trans h.lstate, k.timeout.trans h.timeout,
    k.txbuf.trans h.txbuf, k.tx.trans h.tx⟩

theorem sameLink_deliver (s : State) (p : Bytes) : SameLink s (s.deliver p) :=
  ⟨sameSettings_deliver s p, deliver_lstate s p, deliver_timeout s p, deliver_txbuf s p, deliver_tx s p⟩

theorem ParseEnds.sameLink {s t : State} (k : ParseEnds s t) (h : s.NoReset 3) : SameLink s t := by
  have hread {P : Parse} (hp : s.clearAnom.parseFrame = P) : SameLink s P.state :=
    ((reads_clearAnom s).trans (reads_of_parse hp)).sameLink
  cases k with
  | delivered p u hp => exact (hread hp).trans (sameLink_deliver u p)
  | silent u hp => exact (hread hp).trans ⟨⟨rfl, rfl, rfl, rfl⟩, rfl, rfl, rfl, rfl⟩
  | broken u hp => exact (hread hp).trans ⟨⟨rfl, rfl, rfl, rfl⟩, rfl, rfl, rfl, rfl⟩
  | abandoned u hp => exact absurd hp (parseFrame_not_abandoned (s := s.clearAnom) h u)

end Sys2Proof.Machine

namespace Sys2Proof.Proofs

open Sys2Proof.Machine

/-- Settles O47, by what each instruction does: the two operations that read write what `Reads` and a call's own updates
allow, every other one writes its own register and RESULT. -/
theorem everyRegisterHasItsWriters : Obligations.EveryRegisterHasItsWriters := by
  intro i s t h hx
  cases exec_effect hx with
  | crcA | withCrcA | lcs | dcs | built | failed | carried | arrived => simp [State.buildTx, State.failWith]
  | parsed _ hp =>
    obtain ⟨⟨hcrc, hstrict, hlatches, hinputs⟩, hlstate, htimeout, htxbuf, htx⟩ :=
      hp.sameLink (noReset_mono h (by omega))
    simp [*]
  | called c a tmo _ _ hc =>
    obtain ⟨hcrc, hstrict, hlatches, hinputs⟩ := (hc.returns h).sameSettings
    simp [*]

end Sys2Proof.Proofs

/-! SUPPORT. Relations that every read and every validation keeps, and two of them: the streams grow, and HEAD and the
history behind the head read stay. -/

namespace Sys2Proof.Machine

/-! ### What every read and every validation keeps -/

/-- A relation between the states of an operation that no read and no validation breaks. -/
structure KeptByReading (R : State → State → Prop) : Prop where
  refl : ∀ s, R s s
  trans : ∀ {s t u}, R s t → R t u → R s u
  check : ∀ s b f, R s (s.check b f)
  setPay : ∀ s b, R s (s.setPay b)
  runSum : ∀ s m p, R s (s.runSum m p)
  environment : ∀ s : State, R s s.environment
  takeRx : ∀ s n k, R s (s.takeRx n k)
  dropRx : ∀ s k, R s (s.dropRx k)

/-- The state a read has reached. -/
def Read.state : Read → State
  | .got _ t => t
  | .abandoned t => t
  | .hung t => t

section
variable {R : State → State → Prop} (hR : KeptByReading R)
include hR

theorem KeptByReading.rxRead {s : State} {n : Nat} {r : Read} (h : s.rxRead n = r) : R s r.state := by
  cases r with
  | got r t => obtain ⟨-, -, -, rfl⟩ := rxRead_got s n r t h; exact hR.takeRx ..
  | abandoned t => obtain ⟨-, rfl⟩ := rxRead_abandoned s n t h; exact hR.dropRx ..
  | hung t => obtain ⟨-, -, -, rfl⟩ := rxRead_hung s n t h; exact hR.environment s

theorem KeptByReading.ackCheck {s t : State} {r : Bytes} (h : s.ackCheck = .got r t) : R s t := by
  obtain ⟨u, hu, rfl⟩ := ackCheck_got s r t h
  exact hR.trans (hR.rxRead hu) (hR.check ..)

theorem KeptByReading.parsePostamble (s : State) : R s s.parsePostamble.state := by
  unfold State.parsePostamble
  split
  next t h => exact hR.rxRead h
  next x r t h => exact hR.trans (hR.rxRead h) (hR.check ..)
  next t h => exact hR.rxRead h
  next t h => exact hR.rxRead h

theorem KeptByReading.takeBody (s : State) (len m : Byte) (body : Bytes) : R s (s.takeBody len m body) :=
  hR.trans (hR.trans (hR.setPay ..) (hR.runSum ..)) (hR.check ..)

theorem KeptByReading.parseBody (s : State) (len m : Byte) : R s (s.parseBody len m).state := by
  have hc := hR.check s (m == Config.deviceMarker) .marker
  unfold State.parseBody
  split
  next body t h =>
    have ht := hR.trans hc (hR.rxRead h)
    split
    · exact ht
    · exact hR.trans (hR.trans ht (hR.takeBody ..)) (hR.parsePostamble _)
  next t h => exact hR.trans hc (hR.rxRead h)
  next t h => exact hR.trans hc (hR.rxRead h)

theorem KeptByReading.parseHead (s : State) (b0 b1 b2 len c m : Byte) :
    R s (s.parseHead b0 b1 b2 len c m).state := by
  have hc := hR.trans (hR.check s ([b0, b1, b2] == Config.preamble) .pre) (hR.check _ (lcsOk len c) .lcs)
  unfold State.parseHead
  split
  · exact hR.trans (hR.trans hc (hR.setPay _ [])) (hR.parsePostamble _)
  · exact hR.trans hc (hR.parseBody ..)

/-- A whole parse keeps what also the write of HEAD keeps. -/
theorem KeptByReading.parseFrame (hhead : ∀ s b, R s (s.setHead b)) {s : State} {P : Parse}
    (hp : s.parseFrame = P) : R s P.state := by
  subst hp
  unfold State.parseFrame
  split
  next t h => exact hR.trans (hR.rxRead h) (hhead ..)
  next t h => exact hR.trans (hR.trans (hR.rxRead h) (hhead ..)) (hR.parseHead ..)
  next t _ _ h => exact hR.trans (hR.rxRead h) (hhead ..)
  next t h => exact hR.rxRead h
  next t h => exact hR.rxRead h

end

/-! ### The streams grow -/

/-- TX, the delivered bytes and LOG only grow, and the device receives only what was written, in order (10_state.md R28,
R29). -/
structure Grows (s t : State) : Prop where
  sent : s.txSent <+: t.txSent
  log : s.log <+: t.log
  written : ∃ w, t.tx = s.tx ++ w ∧ (t.txSent ++ t.txUnsent).Sublist (s.txSent ++ s.txUnsent ++ w)

theorem Grows.trans {s t u : State} (h : Grows s t) (k : Grows t u) : Grows s u := by
  obtain ⟨w, hw, hsub⟩ := h.written
  obtain ⟨w', hw', hsub'⟩ := k.written
  refine ⟨h.sent.trans k.sent, h.log.trans k.log, w ++ w', by rw [hw', hw, List.append_assoc], ?_⟩
  rw [← List.append_assoc]
  exact hsub'.trans (hsub.append_right w')

/-- What writes neither TX nor the channel, and no more than appends to LOG. -/
theorem grows_of_same {s t : State} (htx : t.tx = s.tx) (hsent : t.txSent = s.txSent)
    (hunsent : t.txUnsent = s.txUnsent) (hlog : s.log <+: t.log) : Grows s t :=
  ⟨hsent ▸ List.prefix_refl _, hlog, [], by simp [htx], by simp [hsent, hunsent]⟩

/-- What touches no stream. -/
theorem grows_untouched {s t : State} (htx : t.tx = s.tx) (hsent : t.txSent = s.txSent)
    (hunsent : t.txUnsent = s.txUnsent) (hlog : t.log = s.log) : Grows s t :=
  grows_of_same htx hsent hunsent (hlog ▸ List.prefix_refl _)

/-- The channel delivers the first unsent bytes: none is lost, none is new (20_memory.md R47). -/
theorem grows_delivery {s t : State} (n : Nat) (htx : t.tx = s.tx)
    (hsent : t.txSent = s.txSent ++ s.txUnsent.take n) (hunsent : t.txUnsent = s.txUnsent.drop n)
    (hlog : t.log = s.log) : Grows s t :=
  ⟨hsent ▸ List.prefix_append .., hlog ▸ List.prefix_refl _, [], by simp [htx], by
    rw [hsent, hunsent, List.append_assoc, List.take_append_drop, List.append_nil]⟩

theorem grows_check (s : State) (b : Bool) (f : AnomFlag) : Grows s (s.check b f) := by
  refine grows_of_same (by simp) (by simp) (by simp) ?_
  rw [check_log]
  split
  · exact List.prefix_refl _
  · exact List.prefix_append ..

/-- A flush drops the unsent bytes that the draw did not deliver (20_memory.md R38). -/
theorem grows_flush (s : State) : Grows s s.flush where
  sent := List.prefix_append ..
  log := List.prefix_refl _
  written := ⟨[], by simp, by simpa using List.take_sublist ..⟩

theorem grows_txWrite (s : State) (b : Bytes) : Grows s (s.txWrite b) where
  sent := List.prefix_refl _
  log := List.prefix_refl _
  written := ⟨b, rfl, by simp⟩

theorem grows_keptByReading : KeptByReading Grows where
  refl _ := grows_untouched rfl rfl rfl rfl
  trans := Grows.trans
  check := grows_check
  setPay _ _ := grows_untouched rfl rfl rfl rfl
  runSum _ _ _ := grows_untouched rfl rfl rfl rfl
  environment s := grows_delivery s.nextDraw.sent rfl rfl rfl rfl
  takeRx s _ _ := grows_delivery s.nextDraw.sent rfl rfl rfl rfl
  dropRx s _ := grows_delivery s.nextDraw.sent rfl rfl rfl rfl

/-- However a parse ends, the streams have grown. -/
theorem grows_parse {s : State} {P : Parse} (hp : s.parseFrame = P) : Grows s P.state :=
  grows_keptByReading.parseFrame (fun _ _ => grows_untouched rfl rfl rfl rfl) hp

theorem grows_deliver (s : State) (p : Bytes) : Grows s (s.deliver p) := by
  refine grows_of_same (by simp) (by simp) (by simp) ?_
  rw [deliver_log]
  split
  · exact List.prefix_append ..
  · exact List.prefix_refl _

theorem grows_failWith (s : State) (r : Reason) : Grows s (s.failWith r) :=
  grows_of_same rfl rfl rfl (List.prefix_append ..)

theorem grows_failCall (s : State) (r : Reason) : Grows s (s.failCall r) :=
  grows_of_same rfl rfl rfl (List.prefix_append ..)

/-- A call up to its ACK read: the flush, and the frame written behind it. -/
theorem grows_awaitAck (s : State) (c : Byte) (a : Bytes) (tmo : Duration) : Grows s (s.awaitAck c a tmo) := by
  have hopen : Grows s (s.clearAnom.setTimeout tmo) := grows_untouched rfl rfl rfl rfl
  have hbuild (u : State) : Grows u (u.buildTx c a) := grows_untouched rfl rfl rfl rfl
  have hlink (u : State) : Grows u ((u.setLink .frameSent).setLink .ackAwaited) := grows_untouched rfl rfl rfl rfl
  exact (((hopen.trans (grows_flush _)).trans (hbuild _)).trans (grows_txWrite _ (buildFrame c a))).trans (hlink _)

theorem grows_awaitResponse (s : State) : Grows s s.awaitResponse := grows_untouched rfl rfl rfl rfl

theorem grows_ackResponse (s : State) : Grows s s.ackResponse :=
  (grows_txWrite s Config.ack).trans (grows_untouched rfl rfl rfl rfl)

theorem ParseEnds.grows {s t : State} (k : ParseEnds s t) (h : s.NoReset 3) : Grows s t := by
  have hread {P : Parse} (hp : s.clearAnom.parseFrame = P) : Grows s P.state :=
    (grows_untouched rfl rfl rfl rfl : Grows s s.clearAnom).trans (grows_parse hp)
  cases k with
  | delivered p u hp => exact (hread hp).trans (grows_deliver u p)
  | silent u hp => exact (hread hp).trans (grows_untouched rfl rfl rfl rfl)
  | broken u hp => exact (hread hp).trans (grows_failWith u _)
  | abandoned u hp => exact absurd hp (parseFrame_not_abandoned (s := s.clearAnom) h u)

theorem CallReturns.grows {s t : State} {c : Byte} {a : Bytes} {tmo : Duration} (k : CallReturns s c a tmo t) :
    Grows s t := by
  have hread {u : State} {r : Bytes} {P : Parse} (hack : (s.awaitAck c a tmo).ackCheck = .got r u)
      (hp : u.awaitResponse.parseFrame = P) : Grows s P.state :=
    (((grows_awaitAck s c a tmo).trans (grows_keptByReading.ackCheck hack)).trans (grows_awaitResponse u)).trans
      (grows_parse hp)
  cases k with
  | delivered r u p v hack hp => exact ((hread hack hp).trans (grows_ackResponse v)).trans (grows_deliver _ p)
  | silent r u v hack hp => exact (hread hack hp).trans (grows_untouched rfl rfl rfl rfl)
  | broken r u v hack hp => exact (hread hack hp).trans (grows_failCall v _)

/-! ### HEAD, and the history behind the head read -/

/-- HEAD stays, and the history grows. -/
structure KeepsHead (s t : State) : Prop where
  head : t.head = s.head
  trace : s.trace <+: t.trace

theorem KeepsHead.trans {s t u : State} (h : KeepsHead s t) (k : KeepsHead t u) : KeepsHead s u :=
  ⟨k.head.trans h.head, h.trace.trans k.trace⟩

theorem keepsHead_keptByReading : KeptByReading KeepsHead where
  refl s := ⟨rfl, List.prefix_refl _⟩
  trans := KeepsHead.trans
  check s b f := ⟨check_head s b f, by rw [check_trace]⟩
  setPay s _ := ⟨rfl, List.prefix_refl _⟩
  runSum s _ _ := ⟨rfl, List.prefix_refl _⟩
  environment s := ⟨rfl, List.prefix_refl _⟩
  takeRx s _ _ := ⟨rfl, List.prefix_append ..⟩
  dropRx s _ := ⟨rfl, List.prefix_refl _⟩

/-- A parse that comes to a result: it has neither been abandoned nor does it hang. -/
inductive Parse.Returns : Parse → State → Prop where
  | payload (p : Bytes) (t : State) : Parse.Returns (.payload p t) t
  | noResponse (t : State) : Parse.Returns (.noResponse t) t
  | parseError (t : State) : Parse.Returns (.parseError t) t

theorem Parse.Returns.state {P : Parse} {t : State} (h : P.Returns t) : P.state = t := by cases h <;> rfl

/-- The history after a read has the bytes it returned. -/
theorem rxRead_got_trace {s t : State} {n : Nat} {r : Bytes} (h : s.rxRead n = .got r t) :
    t.trace = s.trace ++ [.rx n r] := by
  obtain ⟨-, -, rfl, rfl⟩ := rxRead_got s n r t h
  rfl

/-- When a parse comes to a result, HEAD holds what its head read returned, the first event it made. -/
theorem parseFrame_head {s t : State} (h : s.parseFrame.Returns t) : s.trace ++ [.rx 6 t.head] <+: t.trace := by
  unfold State.parseFrame at h
  split at h
  next u hu => cases h; exact (rxRead_got_trace hu) ▸ List.prefix_refl _
  next b0 b1 b2 len c m u hu =>
    have hk := keepsHead_keptByReading.parseHead (u.setHead [b0, b1, b2, len, c, m]) b0 b1 b2 len c m
    rw [h.state] at hk
    rw [hk.head]
    exact (rxRead_got_trace hu) ▸ hk.trace
  next r u _ _ hu => cases h; exact (rxRead_got_trace hu) ▸ List.prefix_refl _
  next => cases h
  next => cases h

/-- The history of a call up to its head read, and that TXBUF and HEAD hold its frame and what that read returned. -/
structure CallRecord (s : State) (c : Byte) (a : Bytes) (t : State) : Prop where
  txbuf : t.txbuf = buildFrame c a
  trace : ∃ r, s.trace ++ [.flush, .tx (buildFrame c a), .link .frameSent, .link .ackAwaited, .rx 6 r,
    .link .ackVerified, .link .responseAwaited, .rx 6 t.head] <+: t.trace

/-- The record stays while TXBUF and HEAD stay and the history grows. -/
theorem CallRecord.later {s t u : State} {c : Byte} {a : Bytes} (h : CallRecord s c a t) (htxbuf : u.txbuf = t.txbuf)
    (hhead : u.head = t.head) (htrace : t.trace <+: u.trace) : CallRecord s c a u where
  txbuf := htxbuf.trans h.txbuf
  trace := by
    obtain ⟨r, hr⟩ := h.trace
    exact ⟨r, hhead ▸ hr.trans htrace⟩

/-- The record stands when the response read has come to a result. -/
theorem callRecord_response {s u v : State} {c : Byte} {a r : Bytes} {tmo : Duration} {P : Parse}
    (hack : (s.awaitAck c a tmo).ackCheck = .got r u) (hp : u.awaitResponse.parseFrame = P) (hv : P.Returns v) :
    CallRecord s c a v where
  txbuf := by
    have hread := reads_of_parse hp
    rw [hv.state] at hread
    exact hread.txbuf.trans (reads_ackCheck_got hack).txbuf
  trace := by
    obtain ⟨w, hw, hu⟩ := ackCheck_got _ r u hack
    have htrace := parseFrame_head (hp ▸ hv)
    rw [awaitResponse_trace, hu, check_trace, rxRead_got_trace hw, awaitAck_trace] at htrace
    exact ⟨r, by simpa using htrace⟩

theorem CallReturns.record {s t : State} {c : Byte} {a : Bytes} {tmo : Duration} (k : CallReturns s c a tmo t) :
    CallRecord s c a t := by
  cases k with
  | delivered r u p v hack hp =>
    have htrace : v.trace <+: (v.ackResponse.deliver p).trace := by
      rw [deliver_trace, ackResponse_trace]
      exact List.prefix_append ..
    exact (callRecord_response hack hp (.payload p v)).later (deliver_txbuf v.ackResponse p)
      (deliver_head v.ackResponse p) htrace
  | silent r u v hack hp =>
    exact (callRecord_response hack hp (.noResponse v)).later rfl rfl
      (List.prefix_append v.trace [.link .idle])
  | broken r u v hack hp =>
    exact (callRecord_response hack hp (.parseError v)).later rfl rfl
      (List.prefix_append v.trace [.link .idle])

/-- A payload of at most 254 bytes fits, so the instruction is the course of the call. -/
theorem transact_returns {c : Byte} {a : Bytes} {tmo : Duration} {s t : State} (ha : a.length + 1 ≤ 254)
    (h : s.NoReset 5) (hx : exec (.transact c a tmo) s = .next t) : CallReturns s c a tmo t := by
  have fits : payloadFits a = true := by simpa [payloadFits] using ha
  replace hx : execTransact c a tmo s = .next t := hx
  rw [execTransact, if_pos fits] at hx
  exact (runTransact_done (finish_next_done (fun _ => runTransact_hung) hx)).returns h

theorem accesses_append (a b : List Event) : accesses (a ++ b) = accesses a ++ accesses b := List.filter_append ..

end Sys2Proof.Machine

namespace Sys2Proof.Proofs

open Sys2Proof.Machine

/-- Settles O48, by what each instruction does. -/
theorem streamsOnlyGrow : Obligations.StreamsOnlyGrow := by
  intro i s t h hx
  have hgrows : Grows s t := by
    cases exec_effect hx with
    | crcA | withCrcA | lcs | dcs | built | arrived => exact grows_untouched rfl rfl rfl rfl
    | failed => exact grows_failWith ..
    | parsed _ hp => exact hp.grows (noReset_mono h (by omega))
    | called c a tmo _ _ hc => exact (hc.returns h).grows
    | carried _ b _ hb =>
      refine grows_delivery b.length rfl ?_ rfl rfl
      rw [← List.prefix_iff_eq_take.mp hb]
  obtain ⟨w, hw, hsub⟩ := hgrows.written
  exact ⟨hw ▸ List.prefix_append .., hgrows.sent, hgrows.log, w, hw, hsub⟩

/-- Settles O36: the head read is the fourth access of the call, and HEAD keeps what it returned. -/
theorem callLeavesTheBuffers : Obligations.CallLeavesTheBuffers := by
  intro c a tmo s t ha h hx
  obtain ⟨htxbuf, r, more, hmore⟩ := (transact_returns ha h hx).record
  refine ⟨htxbuf, ?_⟩
  rw [← hmore, accesses_append, accesses_append, List.append_assoc, List.getElem?_append_right (by omega),
    Nat.add_sub_cancel_left]
  rfl

end Sys2Proof.Proofs

/-! SUPPORT. PARSE_FRAME read by read: what it does when the queue can fill its reads or cuts its head short, and that two
states which differ only in left-overs go through it alike. -/

namespace Sys2Proof.Machine

/-! ### Reads from RX -/

/-- A read that RX alone can fill returns its first bytes. -/
theorem rxRead_of_rx {s : State} {r q : Bytes} {n : Nat} (hr : s.nextDraw.reset = false) (hrx : s.rx = r ++ q)
    (hn : r.length = n) : s.rxRead n = .got r (s.takeRx n n) := by
  have hq : s.queued = r ++ (q ++ s.nextDraw.arrived) := by rw [State.queued, hrx, List.append_assoc]
  rw [rxRead_full s n hr (by rw [hq, List.length_append]; omega), hq, List.take_left' hn]

/-- A bounded read that the queue cannot fill returns as many bytes as the draw says, up to all of them. -/
theorem rxRead_short {s : State} {n : Nat} (hr : s.nextDraw.reset = false) (hbound : Bounded s.timeout)
    (hn : s.queued.length < n) : s.rxRead n =
      .got (s.queued.take s.nextDraw.count) (s.takeRx n (min s.nextDraw.count s.queued.length)) := by
  obtain ⟨d, hd⟩ := hbound
  have hk : s.readLength n = min s.nextDraw.count s.queued.length := if_neg (by omega)
  have htake : s.queued.take (min s.nextDraw.count s.queued.length) = s.queued.take s.nextDraw.count := by
    rw [← List.take_take, List.take_length]
  rw [rxRead_returns s n hr (fun h => by rw [hd] at h; cases h), hk, htake]

/-- Behind a read that RX alone can fill RX holds what it left, and what arrived meanwhile. -/
theorem takeRx_rx_of_rx {s : State} {r q : Bytes} {n : Nat} (hrx : s.rx = r ++ q) (hn : r.length = n) :
    (s.takeRx n n).rx = q ++ s.nextDraw.arrived := by
  rw [takeRx_rx, State.queued, hrx, List.append_assoc, List.drop_left' hn]

/-! ### The parts of a parse -/

@[simp] theorem takeBody_head (s : State) (len m : Byte) (body : Bytes) : (s.takeBody len m body).head = s.head := by
  simp [State.takeBody]

@[simp] theorem takeBody_pay (s : State) (len m : Byte) (body : Bytes) :
    (s.takeBody len m body).pay = body.take (len.toNat - 1) := by simp [State.takeBody]

@[simp] theorem takeBody_sum (s : State) (len m : Byte) (body : Bytes) :
    (s.takeBody len m body).sum = accumulate m (body.take (len.toNat - 1)) := by simp [State.takeBody]

@[simp] theorem takeBody_rx (s : State) (len m : Byte) (body : Bytes) : (s.takeBody len m body).rx = s.rx := by
  simp [State.takeBody]

/-- A postamble byte in RX ends the parse with the payload (43_frame_parse.md R99). -/
theorem parsePostamble_of_rx {s : State} {x : Byte} {q : Bytes} (h : s.NoReset 1) (hrx : s.rx = x :: q) :
    s.parsePostamble = .payload s.pay ((s.takeRx 1 1).check (x == Config.postamble) .post) := by
  have hread : s.rxRead 1 = .got [x] (s.takeRx 1 1) := rxRead_of_rx (q := q) (noReset_nextDraw h) hrx rfl
  simp [State.parsePostamble, hread]

/-- The state of a parse behind a body that was read whole (43_frame_parse.md R96 to R98). -/
def State.afterBody (s : State) (len m : Byte) (body : Bytes) : State :=
  ((s.check (m == Config.deviceMarker) .marker).takeRx len.toNat len.toNat).takeBody len m body

/-- A body that stands whole in RX is taken, and the postamble read follows. -/
theorem parseBody_of_rx {s : State} {len m : Byte} {body q : Bytes} (h : s.NoReset 1) (hlen : body.length = len.toNat)
    (hrx : s.rx = body ++ q) : s.parseBody len m = (s.afterBody len m body).parsePostamble := by
  have hc := noReset_nextDraw (noReset_check h (m == Config.deviceMarker) .marker)
  have hread := rxRead_of_rx hc ((check_rx ..).trans hrx) hlen
  simp [State.parseBody, hread, hlen, State.afterBody]

/-- The state of a parse behind a whole head and the tests made on it (43_frame_parse.md R92, R93). -/
def State.afterHead (s : State) (b0 b1 b2 len c m : Byte) : State :=
  ((((s.takeRx 6 6).setHead [b0, b1, b2, len, c, m]).check ([b0, b1, b2] == Config.preamble) .pre).check
    (lcsOk len c) .lcs)

/-- A head that stands whole in RX is taken, and the parse goes on by its `LEN`. -/
theorem parseFrame_of_rx {s : State} {b0 b1 b2 len c m : Byte} {q : Bytes} (h : s.NoReset 1)
    (hrx : s.rx = [b0, b1, b2, len, c, m] ++ q) : s.parseFrame =
      if len = 0 then ((s.afterHead b0 b1 b2 len c m).setPay []).parsePostamble
      else (s.afterHead b0 b1 b2 len c m).parseBody len m := by
  have hread := rxRead_of_rx (n := Config.headLen) (noReset_nextDraw h) hrx rfl
  simp only [State.parseFrame, hread]
  rfl

theorem noReset_afterHead {s : State} {k : Nat} (h : s.NoReset (k + 1)) (b0 b1 b2 len c m : Byte) :
    (s.afterHead b0 b1 b2 len c m).NoReset k :=
  noReset_check (noReset_check (noReset_setHead (noReset_takeRx h 6 6) _) _ _) _ _

theorem afterHead_rx {s : State} {b0 b1 b2 len c m : Byte} {q : Bytes} (hrx : s.rx = [b0, b1, b2, len, c, m] ++ q) :
    (s.afterHead b0 b1 b2 len c m).rx = q ++ s.nextDraw.arrived := by
  rw [State.afterHead, check_rx, check_rx]
  exact takeRx_rx_of_rx hrx rfl

@[simp] theorem afterHead_head (s : State) (b0 b1 b2 len c m : Byte) :
    (s.afterHead b0 b1 b2 len c m).head = [b0, b1, b2, len, c, m] := by simp [State.afterHead]

@[simp] theorem afterHead_sum (s : State) (b0 b1 b2 len c m : Byte) :
    (s.afterHead b0 b1 b2 len c m).sum = s.sum := by simp [State.afterHead]

theorem noReset_afterBody {s : State} {k : Nat} (h : s.NoReset (k + 1)) (len m : Byte) (body : Bytes) :
    (s.afterBody len m body).NoReset k :=
  noReset_takeBody (noReset_takeRx (noReset_check h _ _) _ _) len m body

theorem afterBody_rx {s : State} {len m : Byte} {body q : Bytes} (hlen : body.length = len.toNat)
    (hrx : s.rx = body ++ q) : ∃ more, (s.afterBody len m body).rx = q ++ more := by
  refine ⟨_, (takeBody_rx ..).trans (takeRx_rx_of_rx ((check_rx ..).trans hrx) hlen)⟩

/-- A frame that stands whole in RX, `LEN` not 0, is parsed to its payload (43_frame_parse.md R100). -/
theorem parseFrame_of_frame {s : State} {b0 b1 b2 len c m d x : Byte} {p rest : Bytes} (h : s.NoReset 3)
    (hlen : p.length + 1 = len.toNat) (hrx : s.rx = [b0, b1, b2, len, c, m] ++ ((p ++ [d]) ++ x :: rest)) :
    s.parseFrame = .payload p ((((s.afterHead b0 b1 b2 len c m).afterBody len m (p ++ [d])).takeRx 1 1).check
      (x == Config.postamble) .post) := by
  have hlen0 : len ≠ 0 := by rintro rfl; simp at hlen
  have hbody : (p ++ [d]).length = len.toNat := by simpa using hlen
  have hhead := noReset_afterHead h b0 b1 b2 len c m
  have hrx1 : (s.afterHead b0 b1 b2 len c m).rx = (p ++ [d]) ++ (x :: rest ++ s.nextDraw.arrived) := by
    rw [afterHead_rx hrx, List.append_assoc]
  obtain ⟨more, hrx2⟩ := afterBody_rx (m := m) hbody hrx1
  have hpay : (p ++ [d]).take (len.toNat - 1) = p := by rw [← hlen]; simp
  rw [parseFrame_of_rx (noReset_mono h (by omega)) hrx, if_neg hlen0,
    parseBody_of_rx (noReset_mono hhead (by omega)) hbody hrx1,
    parsePostamble_of_rx (noReset_afterBody hhead len m _) hrx2]
  simp [State.afterBody, hpay]

/-- A head with `LEN` 0 and one byte behind it is parsed to the empty payload (43_frame_parse.md R95). -/
theorem parseFrame_of_zeroLength {s : State} {b0 b1 b2 c m x : Byte} {rest : Bytes} (h : s.NoReset 2)
    (hrx : s.rx = [b0, b1, b2, 0, c, m] ++ x :: rest) :
    s.parseFrame = .payload [] ((((s.afterHead b0 b1 b2 0 c m).setPay []).takeRx 1 1).check
      (x == Config.postamble) .post) := by
  have hpost : ((s.afterHead b0 b1 b2 0 c m).setPay []).NoReset 1 := noReset_setPay (noReset_afterHead h _ _ _ _ _ _) []
  rw [parseFrame_of_rx (noReset_mono h (by omega)) hrx, if_pos rfl, parsePostamble_of_rx hpost (afterHead_rx hrx)]
  rfl

/-- A head read returns nothing, the six bytes of a head, or something else, which is a broken head. -/
theorem head_cases (r : Bytes) : r = [] ∨ (∃ b0 b1 b2 len c m, r = [b0, b1, b2, len, c, m]) ∨
    (r ≠ [] ∧ ∀ b0 b1 b2 len c m, r ≠ [b0, b1, b2, len, c, m]) := by
  by_cases hnil : r = []
  · exact .inl hnil
  by_cases hsix : ∃ b0 b1 b2 len c m, r = [b0, b1, b2, len, c, m]
  · exact .inr (.inl hsix)
  · exact .inr (.inr ⟨hnil, fun b0 b1 b2 len c m h => hsix ⟨b0, b1, b2, len, c, m, h⟩⟩)

theorem parseFrame_got_nil {s u : State} (h : s.rxRead 6 = .got [] u) : s.parseFrame = .noResponse (u.setHead []) := by
  unfold State.parseFrame
  rw [h]

theorem parseFrame_got_head {s u : State} {b0 b1 b2 len c m : Byte} (h : s.rxRead 6 = .got [b0, b1, b2, len, c, m] u) :
    s.parseFrame = (u.setHead [b0, b1, b2, len, c, m]).parseHead b0 b1 b2 len c m := by
  unfold State.parseFrame
  rw [h]

theorem parseFrame_got_broken {s u : State} {r : Bytes} (h : s.rxRead 6 = .got r u) (hnil : r ≠ [])
    (hsix : ∀ b0 b1 b2 len c m, r ≠ [b0, b1, b2, len, c, m]) : s.parseFrame = .parseError (u.setHead r) := by
  unfold State.parseFrame
  rw [h]
  split
  next hr => cases hr; exact absurd rfl hnil
  next hr => cases hr; exact absurd rfl (hsix _ _ _ _ _ _)
  next hr => cases hr; rfl
  next hr => cases hr
  next hr => cases hr

theorem parseFrame_abandoned {s u : State} (h : s.rxRead 6 = .abandoned u) : s.parseFrame = .abandoned u := by
  unfold State.parseFrame
  rw [h]

theorem parseFrame_hangs {s u : State} (h : s.rxRead 6 = .hung u) : s.parseFrame = .hung u := by
  unfold State.parseFrame
  rw [h]

/-! ### PARSE_FRAME by the outcome of its parse -/

theorem exec_parseFrame_payload {s u : State} {p : Bytes} (h : s.clearAnom.parseFrame = .payload p u) :
    exec .parseFrame s = .next (u.deliver p) := by
  have hrun : s.runParse = .done (u.deliver p) := by simp only [State.runParse, h]
  exact (congrArg _ hrun).trans (finish_done ..)

theorem exec_parseFrame_noResponse {s u : State} (h : s.clearAnom.parseFrame = .noResponse u) :
    exec .parseFrame s = .next (u.setResult .noResponse) := by
  have hrun : s.runParse = .done (u.setResult .noResponse) := by simp only [State.runParse, h]
  exact (congrArg _ hrun).trans (finish_done ..)

theorem exec_parseFrame_parseError {s u : State} (h : s.clearAnom.parseFrame = .parseError u) :
    exec .parseFrame s = .next (u.failWith .parseError) := by
  have hrun : s.runParse = .done (u.failWith .parseError) := by simp only [State.runParse, h]
  exact (congrArg _ hrun).trans (finish_done ..)

/-- The accumulator holds the sum modulo 256 (41_link_checksum.md R82). -/
theorem accumulate_eq (m : Byte) (p : Bytes) : accumulate m p = BitVec.ofNat 8 (m.toNat + sumBytes p) := by
  induction p generalizing m with
  | nil => simp [accumulate, sumBytes]
  | cons x p ih =>
    have hstep : accumulate m (x :: p) = accumulate (m + x) p := rfl
    rw [hstep, ih]
    apply BitVec.eq_of_toNat_eq
    simp [sumBytes, Nat.add_assoc]

/-! ### Two states that differ in left-overs alone -/

/-- `a`, reached from `s`, and `b`, reached from `u`, agree in everything a parse reads, and the same history and log stand
behind those of `s` and `u`. -/
structure Alike (s u a b : State) : Prop where
  strict : b.strict = a.strict
  timeout : b.timeout = a.timeout
  rx : b.rx = a.rx
  draws : b.draws = a.draws
  drawCount : b.drawCount = a.drawCount
  anom : b.anom = a.anom
  since : ∃ h l, a.trace = s.trace ++ h ∧ b.trace = u.trace ++ h ∧ a.log = s.log ++ l ∧ b.log = u.log ++ l

section
variable {s u a b : State} (h : Alike s u a b)
include h

theorem Alike.nextDraw : b.nextDraw = a.nextDraw := by simp only [State.nextDraw, h.draws, h.drawCount]

theorem Alike.queued : b.queued = a.queued := by simp only [State.queued, h.rx, h.nextDraw]

/-- The two states grow by the same events and log events, and stay alike in the rest. -/
theorem Alike.grow {a' b' : State} (es : List Event) (ls : List LogEvent) (hstrict : b'.strict = a'.strict)
    (htimeout : b'.timeout = a'.timeout) (hrx : b'.rx = a'.rx) (hdraws : b'.draws = a'.draws)
    (hcount : b'.drawCount = a'.drawCount) (hanom : b'.anom = a'.anom)
    (ha : a'.trace = a.trace ++ es) (hb : b'.trace = b.trace ++ es) (hla : a'.log = a.log ++ ls)
    (hlb : b'.log = b.log ++ ls) : Alike s u a' b' := by
  obtain ⟨es', ls', h1, h2, h3, h4⟩ := h.since
  exact ⟨hstrict, htimeout, hrx, hdraws, hcount, hanom, es' ++ es, ls' ++ ls, by rw [ha, h1, List.append_assoc],
    by rw [hb, h2, List.append_assoc], by rw [hla, h3, List.append_assoc], by rw [hlb, h4, List.append_assoc]⟩

theorem Alike.check (x : Bool) (f : AnomFlag) : Alike s u (a.check x f) (b.check x f) := by
  refine h.grow [] (if x then [] else [f.logEvent]) (by simp [h.strict]) (by simp [h.timeout]) (by simp [h.rx])
    (by simp [h.draws]) (by simp [h.drawCount]) (by simp [h.anom]) (by simp) (by simp) ?_ ?_
  · cases x <;> simp
  · cases x <;> simp

theorem Alike.setHead (x : Bytes) : Alike s u (a.setHead x) (b.setHead x) := { h with }

theorem Alike.setPay (x : Bytes) : Alike s u (a.setPay x) (b.setPay x) := { h with }

theorem Alike.runSum (m : Byte) (p : Bytes) : Alike s u (a.runSum m p) (b.runSum m p) := { h with }

theorem Alike.takeRx (n k : Nat) : Alike s u (a.takeRx n k) (b.takeRx n k) :=
  h.grow [.rx n (a.queued.take k)] [] (by simp [h.strict]) (by simp [h.timeout]) (by simp [h.queued])
    (by simp [h.draws]) (by simp [h.drawCount]) (by simp [h.anom]) rfl (by simp [h.queued]) (by simp) (by simp)

/-- The same read of two such states has the same outcome. -/
theorem Alike.rxRead (n : Nat) :
    (∃ k, a.rxRead n = .got (a.queued.take k) (a.takeRx n k) ∧
      b.rxRead n = .got (a.queued.take k) (b.takeRx n k)) ∨
    (∃ k, a.rxRead n = .abandoned (a.dropRx k) ∧ b.rxRead n = .abandoned (b.dropRx k)) ∨
    a.rxRead n = .hung a.environment ∧ b.rxRead n = .hung b.environment := by
  unfold State.rxRead State.neverFills State.readLength
  rw [h.nextDraw, h.queued, h.timeout]
  split
  · exact .inr (.inl ⟨_, rfl, rfl⟩)
  split
  · exact .inr (.inr ⟨rfl, rfl⟩)
  · exact .inl ⟨_, rfl, rfl⟩

end

/-- Two parses that come to the same outcome in states that are alike. An abandoned parse resets the block, and one that
hangs has no state. -/
inductive ParsesAlike (s u : State) : Parse → Parse → Prop where
  | payload (p : Bytes) (a b : State) (h : Alike s u a b) : ParsesAlike s u (.payload p a) (.payload p b)
  | noResponse (a b : State) (h : Alike s u a b) : ParsesAlike s u (.noResponse a) (.noResponse b)
  | parseError (a b : State) (h : Alike s u a b) : ParsesAlike s u (.parseError a) (.parseError b)
  | abandoned (a b : State) : ParsesAlike s u (.abandoned a) (.abandoned b)
  | hung (a b : State) : ParsesAlike s u (.hung a) (.hung b)

section
variable {s u a b : State} (h : Alike s u a b)
include h

theorem Alike.parsePostamble (hpay : b.pay = a.pay) : ParsesAlike s u a.parsePostamble b.parsePostamble := by
  unfold State.parsePostamble
  rcases h.rxRead 1 with ⟨k, ha, hb⟩ | ⟨k, ha, hb⟩ | ⟨ha, hb⟩
  · rw [ha, hb]
    cases a.queued.take k with
    | nil => exact .parseError _ _ (h.takeRx 1 k)
    | cons x _ =>
      have hp : (b.takeRx 1 k).pay = (a.takeRx 1 k).pay := hpay
      simp only [hp]
      exact .payload _ _ _ ((h.takeRx 1 k).check ..)
  · rw [ha, hb]; exact .abandoned ..
  · rw [ha, hb]; exact .hung ..

theorem Alike.takeBody (len m : Byte) (body : Bytes) : Alike s u (a.takeBody len m body) (b.takeBody len m body) :=
  ((h.setPay _).runSum m _).check ..

theorem Alike.parseBody (len m : Byte) : ParsesAlike s u (a.parseBody len m) (b.parseBody len m) := by
  have hc := h.check (m == Config.deviceMarker) .marker
  unfold State.parseBody
  rcases hc.rxRead len.toNat with ⟨k, ha, hb⟩ | ⟨k, ha, hb⟩ | ⟨ha, hb⟩
  · rw [ha, hb]
    have ht := hc.takeRx len.toNat k
    dsimp only
    split
    · exact .parseError _ _ ht
    · exact (ht.takeBody len m _).parsePostamble (by rw [takeBody_pay, takeBody_pay])
  · rw [ha, hb]; exact .abandoned ..
  · rw [ha, hb]; exact .hung ..

theorem Alike.parseHead (b0 b1 b2 len c m : Byte) :
    ParsesAlike s u (a.parseHead b0 b1 b2 len c m) (b.parseHead b0 b1 b2 len c m) := by
  have hc := (h.check ([b0, b1, b2] == Config.preamble) .pre).check (lcsOk len c) .lcs
  unfold State.parseHead
  dsimp only
  split
  · exact (hc.setPay []).parsePostamble rfl
  · exact hc.parseBody len m

/-- A parse reads nothing in which two such states differ (70_reset_and_hazards.md R159). -/
theorem Alike.parseFrame : ParsesAlike s u a.parseFrame b.parseFrame := by
  rcases h.rxRead 6 with ⟨k, ha, hb⟩ | ⟨k, ha, hb⟩ | ⟨ha, hb⟩
  · have ht := h.takeRx 6 k
    generalize a.queued.take k = r at ha hb
    rcases head_cases r with rfl | ⟨b0, b1, b2, len, c, m, rfl⟩ | ⟨hnil, hsix⟩
    · rw [parseFrame_got_nil ha, parseFrame_got_nil hb]
      exact .noResponse _ _ (ht.setHead [])
    · rw [parseFrame_got_head ha, parseFrame_got_head hb]
      exact (ht.setHead _).parseHead ..
    · rw [parseFrame_got_broken ha hnil hsix, parseFrame_got_broken hb hnil hsix]
      exact .parseError _ _ (ht.setHead r)
  · rw [parseFrame_abandoned ha, parseFrame_abandoned hb]; exact .abandoned ..
  · rw [parseFrame_hangs ha, parseFrame_hangs hb]; exact .hung ..

end

/-- What two operations that end alike leave: the same RESULT, RX and flags, and the same history and log behind those of
the states they started in. -/
structure EndsAlike (s u t v : State) : Prop extends Alike s u t v where
  result : v.result = t.result

section
variable {s u a b : State} (h : Alike s u a b)
include h

theorem Alike.setResult (e : Ending) : EndsAlike s u (a.setResult e) (b.setResult e) :=
  { h with result := by simp [h.anom] }

theorem Alike.failWith (r : Reason) : EndsAlike s u (a.failWith r) (b.failWith r) :=
  ⟨h.grow (a' := a.failWith r) (b' := b.failWith r) [] [r.logEvent] h.strict h.timeout h.rx h.draws h.drawCount h.anom
    (by simp) (by simp) rfl rfl, by simp [h.anom]⟩

theorem Alike.deliver (p : Bytes) : EndsAlike s u (a.deliver p) (b.deliver p) := by
  unfold State.deliver
  rw [h.strict, h.anom]
  split
  · exact h.failWith _
  · exact h.setResult _

end

end Sys2Proof.Machine

namespace Sys2Proof.Proofs

open Sys2Proof.Machine

/-- Settles O27, one case for each of the three ways the head read and what follows it can go. -/
theorem parseLeavesTheBuffers : Obligations.ParseLeavesTheBuffers := by
  refine ⟨?frame, ?zeroLength, ?shortHead⟩
  case frame =>
    intro s b0 b1 b2 len c m p d rest h hlen hd hrx
    obtain ⟨d, x, rfl⟩ := List.length_eq_two.mp hd
    have ht := parseFrame_of_frame (s := s.clearAnom) (d := d) (x := x) (rest := rest) h hlen (by simpa using hrx)
    refine ⟨_, exec_parseFrame_payload ht, ?_⟩
    have hpay : (p ++ [d]).take (len.toNat - 1) = p := by rw [← hlen]; simp
    simp [State.afterBody, hpay, accumulate_eq]
  case zeroLength =>
    intro s b0 b1 b2 c m x rest h hrx
    have ht := parseFrame_of_zeroLength (s := s.clearAnom) h hrx
    refine ⟨_, exec_parseFrame_payload ht, ?_⟩
    simp
  case shortHead =>
    intro s q hbound h hq hlen
    have hqueued : s.clearAnom.queued = q := by rw [hq, ← nextDraw_eq_drawAt]; rfl
    have hdraw : s.clearAnom.nextDraw = s.drawAt 0 := nextDraw_eq_drawAt s
    have hread := rxRead_short (s := s.clearAnom) (n := 6) (noReset_nextDraw h) hbound (by rwa [hqueued])
    rw [hqueued, hdraw] at hread
    have hsix : ∀ b0 b1 b2 len c m, q.take (s.drawAt 0).count ≠ [b0, b1, b2, len, c, m] := by
      intro b0 b1 b2 len c m hsix
      have hl := congrArg List.length hsix
      simp only [List.length_take, List.length_cons, List.length_nil] at hl
      omega
    by_cases hnil : q.take (s.drawAt 0).count = []
    · rw [hnil] at hread ⊢
      exact ⟨_, exec_parseFrame_noResponse (parseFrame_got_nil hread), rfl, rfl, rfl⟩
    · exact ⟨_, exec_parseFrame_parseError (parseFrame_got_broken hread hnil hsix), rfl, rfl, rfl⟩

/-- Settles O49: the two parses have the same outcome in states that are alike, and end alike. -/
theorem parseReadsNoLeftovers : Obligations.ParseReadsNoLeftovers := by
  intro s u t h hstrict htimeout hrx hdraws hcount hx
  have hstart : Alike s u s.clearAnom u.clearAnom :=
    ⟨hstrict, htimeout, hrx, hdraws, hcount, rfl, [], [], by simp, by simp, by simp, by simp⟩
  have hends : ∃ v, exec .parseFrame u = .next v ∧ EndsAlike s u t v := by
    have hdone : s.runParse = .done t := finish_next_done (fun _ => runParse_hung) hx
    have halike := hstart.parseFrame
    generalize hp : s.clearAnom.parseFrame = P at halike
    generalize hq : u.clearAnom.parseFrame = Q at halike
    cases halike with
    | payload p a b hab =>
      cases (exec_parseFrame_payload hp).symm.trans hx
      exact ⟨_, exec_parseFrame_payload hq, hab.deliver p⟩
    | noResponse a b hab =>
      cases (exec_parseFrame_noResponse hp).symm.trans hx
      exact ⟨_, exec_parseFrame_noResponse hq, hab.setResult .noResponse⟩
    | parseError a b hab =>
      cases (exec_parseFrame_parseError hp).symm.trans hx
      exact ⟨_, exec_parseFrame_parseError hq, hab.failWith .parseError⟩
    | abandoned a b => exact absurd hp (parseFrame_not_abandoned (s := s.clearAnom) h a)
    | hung a b => rw [State.runParse, hp] at hdone; cases hdone
  obtain ⟨v, hv, hend⟩ := hends
  exact ⟨v, hv, hend.result, hend.rx, hend.anom, hend.since⟩

end Sys2Proof.Proofs

/-! SUPPORT. The channel of 20_memory.md: how many bytes a read takes, where the environment moves the unsent bytes, and
what a transfer of a form to the device does. -/

namespace Sys2Proof.Machine

/-- The queue of the next read is RX and what arrives with draw 0. -/
theorem queued_eq_drawAt (s : State) : s.queued = s.rx ++ (s.drawAt 0).arrived := by
  rw [State.queued, nextDraw_eq_drawAt]

/-- A read that the queue cannot fill returns what the environment draws, up to all that is there. -/
theorem readCount_short (n queued drawn : Nat) (h : queued < n) : readCount n queued drawn = min drawn queued :=
  if_neg (Nat.not_le.mpr h)

/-- As many bytes leave the queue as the read is to return (20_memory.md R37). -/
theorem length_take_readLength (s : State) (n : Nat) : (s.queued.take (s.readLength n)).length = s.readLength n :=
  List.length_take_of_le (readCount_le_queued ..)

/-- Under a bounded timeout a read that is not abandoned returns (70_reset_and_hazards.md R165). -/
theorem rxRead_bounded {s : State} (n : Nat) (hr : s.nextDraw.reset = false) (hbound : Bounded s.timeout) :
    s.rxRead n = .got (s.queued.take (s.readLength n)) (s.takeRx n (s.readLength n)) := by
  obtain ⟨d, hd⟩ := hbound
  exact rxRead_returns s n hr (fun h => by rw [hd] at h; cases h)

/-- The channel moves unsent bytes behind the delivered ones, in order; none is lost (20_memory.md R47). -/
theorem environment_txSent_append_txUnsent (s : State) :
    s.environment.txSent ++ s.environment.txUnsent = s.txSent ++ s.txUnsent := by
  rw [environment_txSent, environment_txUnsent, List.append_assoc, List.take_append_drop]

/-- What a flush lets through are the next bytes that waited (20_memory.md R38). -/
theorem flush_txSent_prefix (s : State) : s.flush.txSent <+: s.txSent ++ s.txUnsent := by
  rw [flush_txSent, List.prefix_append_right_inj]
  exact List.take_prefix ..

theorem exec_frameHostToDevice (c : Byte) (a : Bytes) (s : State) :
    exec (.frameHostToDevice c a) s = s.carry (buildFrame c a) := rfl

theorem exec_frameAck_toDevice (s : State) : exec (.frameAck .toDevice) s = s.carry Config.ack := rfl

end Sys2Proof.Machine

namespace Sys2Proof.Proofs

open Sys2Proof.Machine

/-- Settles O18: the read takes the first `readLength n` bytes of the queue, and `readCount` says how many these are
when the queue can fill the read and when it cannot. -/
theorem readTakesTheOldestBytes : Obligations.ReadTakesTheOldestBytes := by
  intro s n hreset hbound
  rw [← nextDraw_eq_drawAt] at hreset
  rw [← queued_eq_drawAt, ← nextDraw_eq_drawAt]
  have hlen := length_take_readLength s n
  have hle : s.readLength n ≤ n := readCount_le ..
  refine ⟨_, _, rxRead_bounded n hreset hbound, ?whole, hlen.trans_le hle, ?full, ?short, ?zero,
    takeRx_tx .., takeRx_trace ..⟩
  case whole => rw [takeRx_rx, List.take_append_drop]
  case full => exact fun hn => hlen.trans (readCount_full _ _ _ hn)
  case short => exact fun hn => hlen.trans (readCount_short _ _ _ hn)
  case zero => exact fun hn => List.eq_nil_of_length_eq_zero (by omega)

/-- Settles O19, the write first, then the flush, then the channel. -/
theorem writeAppendsAndFlushDiscards : Obligations.WriteAppendsAndFlushDiscards := by
  intro s b
  refine ⟨txWrite_tx .., txWrite_rx .., ?written, flush_rx s, flush_txUnsent s, flush_tx s, (grows_flush s).sent,
    flush_txSent_prefix s, environment_txSent_append_txUnsent s, ?arrived⟩
  case written => rw [txWrite_txSent, txWrite_txUnsent, List.append_assoc]
  case arrived => rw [environment_rx, nextDraw_eq_drawAt]

/-- Settles O41: both forms to the device are deliveries by the channel, which carries the next unsent bytes and refuses
all others. -/
theorem formsToTheDeviceAreCarried : Obligations.FormsToTheDeviceAreCarried := by
  refine ⟨?frame, ?ack, ?noFrame, ?noAck⟩
  case frame =>
    intro c a rest s _ hun
    rw [exec_frameHostToDevice, carry_unsent hun]
  case ack =>
    intro rest s hun
    rw [exec_frameAck_toDevice]
    exact carry_unsent (b := Config.ack) hun
  case noFrame =>
    intro c a s hun
    rw [exec_frameHostToDevice, carry_refused hun]
  case noAck =>
    intro s hun
    rw [exec_frameAck_toDevice, carry_refused hun]

end Sys2Proof.Proofs

/-! SUPPORT. The decoder and the encoder of 30_encoding.md: which checksum bytes validate, which requests the port carries,
and which bytes are an information frame. -/

namespace Sys2Proof.Machine

/-! ### The checksum bytes that validate -/

/-- The byte that closes a sum to 0 modulo 256 is its two's complement (41_link_checksum.md R75, R76). -/
theorem eq_complement_iff (n : Nat) (c : Byte) :
    c = BitVec.ofNat 8 ((256 - n % 256) % 256) ↔ (n + c.toNat) % 256 = 0 := by
  have hc : c.toNat < 256 := c.isLt
  rw [← BitVec.toNat_inj, BitVec.toNat_ofNat]
  omega

theorem lcsOk_iff (l c : Byte) : lcsOk l c = true ↔ c = lcs l := by
  have hl : l.toNat % 256 = l.toNat := Nat.mod_eq_of_lt l.isLt
  rw [lcsOk, lcs, beq_iff_eq, ← eq_complement_iff, hl]

theorem dcsOk_iff (m : Byte) (p : Bytes) (c : Byte) : dcsOk m p c = true ↔ c = dcs m p := by
  rw [dcsOk, dcs, beq_iff_eq, ← eq_complement_iff]

/-! ### Requests at the command port -/

/-- Every request the port can carry decodes to the instruction its `OP` selects (30_encoding.md R52, R53). -/
theorem decode_port {w : PortWord} (h : w.din.length ≤ 65535) : decode (.port w) = .ok (selectOp w) := if_pos h

/-- The select codes 0x7 to 0xF are the reserved ones (30_encoding.md R54). -/
theorem selectOp_isReserved {w : PortWord} (h : 7 ≤ w.op.toNat) : (selectOp w).isReserved = true := by
  unfold selectOp
  split
  iterate 7 omega
  all_goals rfl

/-- A reserved code is none of the operations, so nothing is sampled for it. -/
theorem isOperation_of_isReserved {i : Instr} (h : i.isReserved = true) : i.isOperation = false := by
  cases i with
  | reserved7 | reserved8 | reserved9 | reservedA | reservedB | reservedC | reservedD | reservedE | reservedF => rfl
  | _ => cases h

theorem exec_of_isReserved {i : Instr} (s : State) (h : i.isReserved = true) : exec i s = s.unsupported := by
  cases i with
  | reserved7 | reserved8 | reserved9 | reservedA | reservedB | reservedC | reservedD | reservedE | reservedF => rfl
  | _ => cases h

/-! ### Information frames -/

theorem infoFrame_length (m : Byte) (p : Bytes) : (infoFrame m p).length = p.length + 8 := by
  simp [infoFrame, Config.preamble]

/-- An information frame as its six head bytes and the rest, the form in which the decoder takes it apart. -/
theorem infoFrame_eq_cons (m : Byte) (p : Bytes) : infoFrame m p =
    0x00 :: 0x00 :: 0xFF :: BitVec.ofNat 8 (p.length + 1) :: lcs (BitVec.ofNat 8 (p.length + 1)) :: m ::
      (p ++ [dcs m p, Config.postamble]) := by
  simp [infoFrame, Config.preamble]

/-- The `LEN` byte counts every payload a frame can hold (30_encoding.md R61). -/
theorem len_toNat {p : Bytes} (hp : p.length ≤ 254) : (BitVec.ofNat 8 (p.length + 1)).toNat = p.length + 1 := by
  rw [BitVec.toNat_ofNat]
  omega

/-- No information frame has the six bytes of the ACK (30_encoding.md R60). -/
theorem infoFrame_ne_ack (m : Byte) (p : Bytes) : infoFrame m p ≠ Config.ack := by
  intro h
  have hlen := congrArg List.length h
  rw [infoFrame_length] at hlen
  simp [Config.ack] at hlen

theorem decodeInfo_infoFrame (m : Byte) {p : Bytes} (hp : p.length ≤ 254) :
    decodeInfo m (infoFrame m p) = .ok p := by
  have hlen := len_toNat hp
  have hnz : BitVec.ofNat 8 (p.length + 1) ≠ 0#8 := fun h => by simp [h] at hlen
  have hlcs := (lcsOk_iff (BitVec.ofNat 8 (p.length + 1)) _).mpr rfl
  have hdcs := (dcsOk_iff m p _).mpr rfl
  rw [infoFrame_eq_cons, decodeInfo]
  simp [Config.preamble, hlcs, hlen, hnz, hdcs]

/-- What follows the head of a frame is the payload and two bytes. -/
theorem eq_append_pair {r : Bytes} {n : Nat} (h : r.length = n + 2) :
    ∃ p d x, r = p ++ [d, x] ∧ p.length = n := by
  have hdrop : (r.drop n).length = 2 := by rw [List.length_drop]; omega
  obtain ⟨d, x, hdx⟩ := List.length_eq_two.mp hdrop
  exact ⟨r.take n, d, x, by rw [← hdx, List.take_append_drop], List.length_take_of_le (by omega)⟩

/-- A test of the decoder lets pass what the tests after it accept. -/
theorem rejectIf_eq_ok {c : Prop} [Decidable c] {r : Reject} {e : Except Reject Bytes} {p : Bytes} :
    (if c then .error r else e) = .ok p ↔ ¬ c ∧ e = .ok p := by
  by_cases hc : c <;> simp [hc]

/-- Bytes that pass every test of the decoder are the frame of the payload it finds (30_encoding.md R55, R60). -/
theorem decodeInfo_ok {m : Byte} {b p : Bytes} (h : decodeInfo m b = .ok p) :
    b = infoFrame m p ∧ p.length ≤ 254 := by
  unfold decodeInfo at h
  split at h
  next b0 b1 b2 len c m' rest =>
    simp only [rejectIf_eq_ok, not_or, not_not, Bool.not_eq_false, lcsOk_iff, dcsOk_iff, Except.ok.injEq] at h
    obtain ⟨hpre, rfl, rfl, ⟨hnz, hrest⟩, hdcs, hpost, hp⟩ := h
    have hpos : len.toNat ≠ 0 := fun h0 => hnz (BitVec.eq_of_toNat_eq h0)
    have hlt : len.toNat < 256 := len.isLt
    obtain ⟨q, d, x, rfl, hq⟩ := eq_append_pair (r := rest) (n := len.toNat - 1) (by omega)
    have hn : len.toNat = q.length + 1 := by omega
    have hlen : BitVec.ofNat 8 (q.length + 1) = len := by rw [← hn, BitVec.ofNat_toNat, BitVec.setWidth_eq]
    have hpay : (q ++ [d, x]).take (len.toNat - 1) = q := List.take_left' hq
    have hd : (q ++ [d, x]).getD (len.toNat - 1) 0 = d := by simp [← hq]
    have hx : (q ++ [d, x]).getD len.toNat 0 = x := by simp [hn]
    rw [hpay, hd] at hdcs
    rw [hx] at hpost
    rw [hpay] at hp
    obtain ⟨rfl, rfl, rfl⟩ : b0 = 0x00 ∧ b1 = 0x00 ∧ b2 = 0xFF := by simpa [Config.preamble] using hpre
    subst hdcs hpost hp
    exact ⟨by rw [infoFrame_eq_cons, hlen], by omega⟩
  · cases h

/-! ### Wire forms -/

theorem decode_ack (dir : Direction) : decode (.line dir Config.ack) = .ok (.frameAck dir) := by
  simp only [decode, decodeLine, if_pos]

theorem decode_buildFrame (c : Byte) {a : Bytes} (ha : a.length + 1 ≤ 254) :
    decode (.line .toDevice (buildFrame c a)) = .ok (.frameHostToDevice c a) := by
  have hinfo : decodeInfo Config.hostMarker (buildFrame c a) = .ok (c :: a) := decodeInfo_infoFrame _ ha
  have hack : buildFrame c a ≠ Config.ack := infoFrame_ne_ack _ _
  simp only [decode, decodeLine, if_neg hack, hinfo]

theorem decode_deviceFrame {p : Bytes} (hp : p.length ≤ 254) :
    decode (.line .toHost (deviceFrame p)) = .ok (.frameDeviceToHost p) := by
  have hinfo : decodeInfo Config.deviceMarker (deviceFrame p) = .ok p := decodeInfo_infoFrame _ hp
  have hack : deviceFrame p ≠ Config.ack := infoFrame_ne_ack _ _
  simp only [decode, decodeLine, if_neg hack, hinfo]

/-- The wire forms, each with the direction and the bytes it travels in (30_encoding.md R56 to R58). -/
inductive WireForm : Direction → Bytes → Instr → Prop where
  | ack (dir : Direction) : WireForm dir Config.ack (.frameAck dir)
  | toDevice (c : Byte) (a : Bytes) (ha : a.length + 1 ≤ 254) :
      WireForm .toDevice (buildFrame c a) (.frameHostToDevice c a)
  | toHost (p : Bytes) (hp : p.length ≤ 254) : WireForm .toHost (deviceFrame p) (.frameDeviceToHost p)

/-- Bytes on the line decode to wire forms and nothing else (30_encoding.md R62). -/
theorem decode_line_ok {dir : Direction} {b : Bytes} {i : Instr} (h : decode (.line dir b) = .ok i) :
    WireForm dir b i := by
  simp only [decode, decodeLine] at h
  split at h
  next hb => cases h; exact hb ▸ .ack dir
  next =>
    cases dir with
    | toDevice =>
      dsimp only at h
      split at h <;> cases h
      next c a hinfo =>
        obtain ⟨rfl, ha⟩ := decodeInfo_ok hinfo
        exact .toDevice c a ha
    | toHost =>
      dsimp only at h
      split at h <;> cases h
      next p hinfo =>
        obtain ⟨rfl, hp⟩ := decodeInfo_ok hinfo
        exact .toHost p hp

/-- The bytes the device sends for a payload, written out (30_encoding.md R57). -/
theorem deviceFrame_eq {p : Bytes} (hp : p.length ≤ 254) : deviceFrame p =
    [0x00, 0x00, 0xFF, BitVec.ofNat 8 (p.length + 1), BitVec.ofNat 8 (256 - (p.length + 1)), 0xD5] ++ p ++
      [dcs 0xD5 p, 0x00] := by
  have hlcs : lcs (BitVec.ofNat 8 (p.length + 1)) = BitVec.ofNat 8 (256 - (p.length + 1)) := by
    rw [lcs, len_toNat hp, Nat.mod_eq_of_lt (by omega)]
  rw [deviceFrame, infoFrame_eq_cons, hlcs]
  rfl

theorem exec_frameDeviceToHost (p : Bytes) (s : State) :
    exec (.frameDeviceToHost p) s = .next { s with rx := s.rx ++ deviceFrame p, deviceWait := true } := rfl

end Sys2Proof.Machine

namespace Sys2Proof.Proofs

open Sys2Proof.Machine

/-- Settles O1: a request is decoded by its select code, a wire form by its bytes. -/
theorem decodeOfEncodeIsTheInstruction : Obligations.DecodeOfEncodeIsTheInstruction := by
  intro i hwf
  cases i with
  | crcA | withCrcA | dcs | buildFrame | transact => exact decode_port (of_decide_eq_true hwf)
  | lcs | parseFrame | reserved7 | reserved8 | reserved9 | reservedA | reservedB | reservedC | reservedD | reservedE
  | reservedF => exact decode_port (Nat.zero_le _)
  | frameHostToDevice c a => exact decode_buildFrame c (of_decide_eq_true hwf)
  | frameDeviceToHost p => exact decode_deviceFrame (of_decide_eq_true hwf)
  | frameAck dir => exact decode_ack dir

/-- Settles O2, one case for each wire form. -/
theorem lineBytesHaveOneMeaning : Obligations.LineBytesHaveOneMeaning := by
  intro dir b i h
  cases decode_line_ok h with
  | ack => exact ⟨rfl, rfl⟩
  | toDevice c a ha => exact ⟨rfl, decide_eq_true ha⟩
  | toHost p hp => exact ⟨rfl, decide_eq_true hp⟩

/-- Settles O3: the frames are those of their payloads, the other words are evaluated. -/
theorem writtenOutWordsDecode : Obligations.WrittenOutWordsDecode := by
  have hcommand : buildFrame 0x01 [] = [0x00, 0x00, 0xFF, 0x02, 0xFE, 0xD4, 0x01, 0x2B, 0x00] := by decide
  have hempty : deviceFrame [] = [0x00, 0x00, 0xFF, 0x01, 0xFF, 0xD5, 0x2B, 0x00] := by decide
  refine ⟨by decide, by decide, by decide, decode_port (by decide), ?toDevice, ?toHost, decode_ack .toDevice⟩
  case toDevice => exact hcommand ▸ decode_buildFrame 0x01 (by decide)
  case toHost => exact hempty ▸ decode_deviceFrame (by decide)

/-- Settles O16: a reserved code is decoded, samples nothing, and ends unsupported. -/
theorem reservedCodesEndUnsupported : Obligations.ReservedCodesEndUnsupported := by
  refine ⟨?request, ?instruction⟩
  case request =>
    intro op cmd d tmo rest s hop hd hidle hin
    have hres := selectOp_isReserved (w := { op := op, cmd := cmd, din := d, tmo := tmo }) hop
    rw [step_input hin, State.handle, request_idle (s := { s with inputs := rest }) hidle (decode_port hd), sample_eq,
      isOperation_of_isReserved hres, exec_of_isReserved _ hres]
    rfl
  case instruction =>
    intro i s hres
    rw [exec_of_isReserved s hres]
    rfl

/-- Settles O40: what arrives is the frame written out, or the ACK. -/
theorem formsFromTheDeviceArrive : Obligations.FormsFromTheDeviceArrive := by
  refine ⟨?frame, ?ack⟩
  case frame =>
    intro p s hp
    rw [exec_frameDeviceToHost, deviceFrame_eq hp]
  case ack => exact fun s => rfl

end Sys2Proof.Proofs

/-! SUPPORT. The CRC_A register of 40_crc_a.md: its two step functions are linear over exclusive or, so they agree if
they agree on single bits; and what the two CRC operations do. -/

namespace Sys2Proof.Machine

/-! ### Maps of words that are linear over exclusive or -/

/-- The map sends the exclusive or of two words to the exclusive or of their images. -/
def XorLinear {w v : Nat} (f : BitVec w → BitVec v) : Prop := ∀ a b, f (a ^^^ b) = f a ^^^ f b

theorem XorLinear.map_zero {w v : Nat} {f : BitVec w → BitVec v} (hf : XorLinear f) : f 0 = 0 := by
  have h := hf 0 0
  rwa [BitVec.xor_self, BitVec.xor_self] at h

/-- The lowest `n + 1` bits of a word are its lowest `n` bits and bit `n`. -/
theorem lowBits_succ {w : Nat} (a : BitVec w) (n : Nat) :
    (a.setWidth (n + 1)).setWidth w =
      (a.setWidth n).setWidth w ^^^ if a.getLsbD n then BitVec.twoPow w n else 0 := by
  ext i hi
  by_cases hin : i = n
  · subst hin
    cases hbit : a[i] <;> simp [hi, hbit]
  · have hlt : i < n + 1 ↔ i < n := by omega
    split <;> simp [hi, hin, hlt]

/-- Two linear maps that agree on the words of one bit agree on every word. -/
theorem XorLinear.eq_of_twoPow {w v : Nat} {f g : BitVec w → BitVec v} (hf : XorLinear f) (hg : XorLinear g)
    (h : ∀ i < w, f (BitVec.twoPow w i) = g (BitVec.twoPow w i)) (a : BitVec w) : f a = g a := by
  have hlow : ∀ n ≤ w, f ((a.setWidth n).setWidth w) = g ((a.setWidth n).setWidth w) := by
    intro n hn
    induction n with
    | zero =>
      have hzero : (a.setWidth 0).setWidth w = 0 := by ext i hi; simp
      rw [hzero, hf.map_zero, hg.map_zero]
    | succ n ih =>
      have hbit : f (if a.getLsbD n then BitVec.twoPow w n else 0) =
          g (if a.getLsbD n then BitVec.twoPow w n else 0) := by
        split
        · exact h n hn
        · rw [hf.map_zero, hg.map_zero]
      rw [lowBits_succ, hf, hg, ih (by omega), hbit]
  have hwhole := hlow w le_rfl
  rwa [BitVec.setWidth_eq, BitVec.setWidth_eq] at hwhole

/-! ### The two forms of the step -/

theorem crcStep_xor (c e : CrcWord) (x y : Byte) : crcStep (c ^^^ e) (x ^^^ y) = crcStep c x ^^^ crcStep e y := by
  simp only [crcStep, lowByte, BitVec.truncate_eq_setWidth, BitVec.setWidth_xor, BitVec.shiftLeft_xor_distrib,
    BitVec.ushiftRight_xor_distrib]
  grind only

/-- What a shift of the bit-serial form feeds back into the register for the bit that leaves it (40_crc_a.md R68). -/
def crcFeedback (b : Bool) : CrcWord := if b then 0x8408 else 0

theorem crcFeedback_xor : ∀ a b : Bool, crcFeedback (a ^^ b) = crcFeedback a ^^^ crcFeedback b := by decide

theorem crcShift_eq (x : Byte) (c : CrcWord) (i : Nat) :
    crcShift x c i = (c >>> 1) ^^^ crcFeedback (x.getLsbD i ^^ c.getLsbD 0) := by
  unfold crcShift crcFeedback
  split
  · rfl
  · exact BitVec.xor_zero.symm

theorem crcShift_xor (c e : CrcWord) (x y : Byte) (i : Nat) :
    crcShift (x ^^^ y) (c ^^^ e) i = crcShift x c i ^^^ crcShift y e i := by
  simp only [crcShift_eq, BitVec.getLsbD_xor, crcFeedback_xor, BitVec.ushiftRight_xor_distrib]
  grind only

theorem foldl_crcShift_xor (x y : Byte) (is : List Nat) (c e : CrcWord) :
    is.foldl (crcShift (x ^^^ y)) (c ^^^ e) = is.foldl (crcShift x) c ^^^ is.foldl (crcShift y) e := by
  induction is generalizing c e with
  | nil => rfl
  | cons i is ih => rw [List.foldl_cons, crcShift_xor, ih, List.foldl_cons, List.foldl_cons]

theorem crcStepSerial_xor (c e : CrcWord) (x y : Byte) :
    crcStepSerial (c ^^^ e) (x ^^^ y) = crcStepSerial c x ^^^ crcStepSerial e y := foldl_crcShift_xor ..

/-- A step that is linear in register and byte together is a linear map of the register and one of the byte. -/
theorem xorLinear_register {step : CrcWord → Byte → CrcWord}
    (h : ∀ c e x y, step (c ^^^ e) (x ^^^ y) = step c x ^^^ step e y) : XorLinear (step · 0) := fun c e => h c e 0 0

theorem xorLinear_byte {step : CrcWord → Byte → CrcWord}
    (h : ∀ c e x y, step (c ^^^ e) (x ^^^ y) = step c x ^^^ step e y) : XorLinear (step 0) := fun x y => h 0 0 x y

/-- 40_crc_a.md R68: both forms are linear, and they agree on each of the 16 bits of the register and 8 of the byte. -/
theorem crcStep_eq_serial (c : CrcWord) (x : Byte) : crcStep c x = crcStepSerial c x := by
  have hregister : crcStep c 0 = crcStepSerial c 0 :=
    (xorLinear_register crcStep_xor).eq_of_twoPow (xorLinear_register crcStepSerial_xor) (by decide) c
  have hbyte : crcStep 0 x = crcStepSerial 0 x :=
    (xorLinear_byte crcStep_xor).eq_of_twoPow (xorLinear_byte crcStepSerial_xor) (by decide) x
  calc crcStep c x
      = crcStep (c ^^^ 0) (0 ^^^ x) := by simp
    _ = crcStepSerial (c ^^^ 0) (0 ^^^ x) := by rw [crcStep_xor, crcStepSerial_xor, hregister, hbyte]
    _ = crcStepSerial c x := by simp

/-! ### The fold and the bytes delivered -/

theorem crcFold_eq_serial (c : CrcWord) (d : Bytes) : crcFold c d = d.foldl crcStepSerial c := by
  rw [crcFold, funext₂ crcStep_eq_serial]

theorem crcFold_append (c : CrcWord) (d e : Bytes) : crcFold c (d ++ e) = crcFold (crcFold c d) e := List.foldl_append

theorem crcBytes_eq (c : CrcWord) : crcBytes c = [c.extractLsb' 0 8, c.extractLsb' 8 8] := rfl

theorem crcA_eq_serial (d : Bytes) : crcA d = crcBytes (d.foldl crcStepSerial 0x6363) :=
  congrArg crcBytes (crcFold_eq_serial ..)

/-- The low byte of the register cancels itself, and the high byte moves down. -/
theorem crcStep_lowByte (c : CrcWord) : crcStep c (lowByte c) = c >>> 8 := by
  simp [crcStep]

/-- The register's own two bytes, as delivered, bring it to zero. -/
theorem crcFold_crcBytes (c : CrcWord) : crcFold c (crcBytes c) = 0 := by
  calc crcFold c (crcBytes c)
      = crcStep (crcStep c (lowByte c)) (highByte c) := rfl
    _ = crcStep (c >>> 8) (lowByte (c >>> 8)) := by rw [crcStep_lowByte]; rfl
    _ = c >>> 16 := by rw [crcStep_lowByte, ← BitVec.shiftRight_add]
    _ = 0 := BitVec.ushiftRight_eq_zero le_rfl

/-! ### The two operations -/

theorem exec_crcA (d : Bytes) (s : State) :
    exec (.crcA d) s = .next ((s.runCrc d).setResult (.ok (crcA d))) := rfl

theorem exec_withCrcA (d : Bytes) (s : State) :
    exec (.withCrcA d) s = .next ((s.runCrc d).setResult (.ok (withCrcA d))) := rfl

end Sys2Proof.Machine

namespace Sys2Proof.Proofs

open Sys2Proof.Machine

/-- Settles O4, by linearity of both forms. -/
theorem crcStepIsEightShifts : Obligations.CrcStepIsEightShifts := crcStep_eq_serial

/-- Settles O5: the register of R69 is the one run bit by bit. -/
theorem crcAOperation : Obligations.CrcAOperation := by
  refine ⟨fun _ _ _ hd => decode_port hd, ?exec, crcA_eq_serial, by decide, by decide, by decide, by decide⟩
  case exec =>
    intro d s
    rw [exec_crcA, crcA_eq_serial, State.runCrc, crcFold_eq_serial]
    rfl

/-- Settles O7: the fold over appended data, and the delivered bytes that cancel the register. -/
theorem crcFoldContinuesAndResidueIsZero : Obligations.CrcFoldContinuesAndResidueIsZero := by
  refine ⟨?continues, ?residue⟩
  case continues => exact fun d e => congrArg crcBytes (crcFold_append _ d e)
  case residue =>
    intro d
    have hzero : crcFold Config.crcInit (withCrcA d) = 0 := (crcFold_append ..).trans (crcFold_crcBytes _)
    rw [crcA, hzero]
    rfl

/-- Settles O6. The register may end with any value; here it is the one that formed the two bytes. -/
theorem withCrcAOperation : Obligations.WithCrcAOperation := by
  refine ⟨fun _ _ _ hd => decode_port hd, ?exec, fun d => crcBytes_eq _, by decide, by decide⟩
  case exec => exact fun d s => ⟨crcFold Config.crcInit d, exec_withCrcA d s⟩

/-- Settles O8, one case for each operation: both deliver a function of the data. -/
theorem crcResultDependsOnDataAlone : Obligations.CrcResultDependsOnDataAlone := by
  intro i d s u t v hi ht hv
  rcases hi with rfl | rfl
  · cases (exec_crcA d s).symm.trans ht
    cases (exec_crcA d u).symm.trans hv
    exact ⟨rfl, crcA d, rfl⟩
  · cases (exec_withCrcA d s).symm.trans ht
    cases (exec_withCrcA d u).symm.trans hv
    exact ⟨rfl, withCrcA d, rfl⟩

end Sys2Proof.Proofs

/-! SUPPORT. The link checksums of 41_link_checksum.md: both are the two's complement of a sum modulo 256, so the byte of
DCS is LCS of the accumulator; and what the two operations do. -/

namespace Sys2Proof.Machine

/-! ### The two checksums as numbers -/

theorem lcs_toNat (l : Byte) : (lcs l).toNat = (256 - l.toNat) % 256 := by
  rw [lcs, BitVec.toNat_ofNat]
  exact Nat.mod_mod ..

/-- The two's complement of a byte, as the bit vector operation (41_link_checksum.md R75). -/
theorem lcs_eq_neg (l : Byte) : lcs l = -l := by
  rw [← BitVec.toNat_inj, lcs_toNat, BitVec.toNat_neg]

theorem dcs_toNat (m : Byte) (p : Bytes) : (dcs m p).toNat = (256 - (m.toNat + sumBytes p) % 256) % 256 := by
  rw [dcs, BitVec.toNat_ofNat]
  exact Nat.mod_mod ..

/-! ### The tests are of the sums -/

theorem lcsOk_iff_sum (l c : Byte) : lcsOk l c = true ↔ (l.toNat + c.toNat) % 256 = 0 := beq_iff_eq

theorem dcsOk_iff_sum (m : Byte) (p : Bytes) (c : Byte) :
    dcsOk m p c = true ↔ (m.toNat + sumBytes p + c.toNat) % 256 = 0 := beq_iff_eq

/-- A length byte and its checksum sum to 0, since the checksum passes its test (41_link_checksum.md R75, R77). -/
theorem lcs_closes (l : Byte) : (l.toNat + (lcs l).toNat) % 256 = 0 :=
  (lcsOk_iff_sum l _).mp ((lcsOk_iff l _).mpr rfl)

theorem dcs_closes (m : Byte) (p : Bytes) : (m.toNat + sumBytes p + (dcs m p).toNat) % 256 = 0 :=
  (dcsOk_iff_sum m p _).mp ((dcsOk_iff m p _).mpr rfl)

/-! ### The accumulator -/

/-- 41_link_checksum.md R82: the data checksum is formed from the running sum. -/
theorem lcs_accumulate (m : Byte) (p : Bytes) : lcs (accumulate m p) = dcs m p := by
  rw [accumulate_eq, lcs, dcs, BitVec.toNat_ofNat]

theorem dcs_nil (m : Byte) : dcs m [] = lcs m := (lcs_accumulate m []).symm

theorem sumBytes_perm {p q : Bytes} (h : p.Perm q) : sumBytes p = sumBytes q := (h.map BitVec.toNat).sum_eq

/-! ### The two operations -/

theorem exec_lcs (l : Byte) (s : State) : exec (.lcs l) s = .next (s.setResult (.ok [lcs l])) := rfl

theorem exec_dcs (m : Byte) (p : Bytes) (s : State) :
    exec (.dcs m p) s = .next ((s.runSum m p).setResult (.ok [dcs m p])) := by
  rw [← lcs_accumulate]
  rfl

end Sys2Proof.Machine

namespace Sys2Proof.Proofs

open Sys2Proof.Machine

/-- Settles O10: the checksum closes the sum, and the sum is that of the payload in any order. -/
theorem dcsClosesTheSum : Obligations.DcsClosesTheSum := by
  refine ⟨fun m p => ⟨dcs_toNat m p, dcs_closes m p⟩, fun m p c => ⟨dcsOk_iff_sum m p c, dcsOk_iff m p c⟩, dcs_nil,
    ?order⟩
  case order =>
    intro m p q hpq
    rw [dcs, dcs, sumBytes_perm hpq]

/-- Settles O12: the accumulator ends with the sum modulo 256, of which the result is the two's complement. -/
theorem dcsOperation : Obligations.DcsOperation := by
  refine ⟨fun _ _ _ hd => decode_port hd, ?exec, by decide, by decide, by decide⟩
  case exec =>
    intro m p s
    rw [exec_dcs, State.runSum, accumulate_eq]
    rfl

/-- Settles O9: the checksum is the negation of the length byte, which is its complement plus one. -/
theorem lcsNegatesTheLength : Obligations.LcsNegatesTheLength := by
  refine ⟨?negates, by decide, by decide, by decide, by decide, fun l c => ⟨lcsOk_iff_sum l c, lcsOk_iff l c⟩⟩
  case negates => exact fun l => ⟨lcs_toNat l, (lcs_eq_neg l).trans (BitVec.neg_eq_not_add l), lcs_closes l⟩

/-- Settles O11: the result is the checksum byte, and no other field is written. -/
theorem lcsOperation : Obligations.LcsOperation := by
  refine ⟨fun _ _ _ hd => decode_port hd, ?exec, by decide, by decide, by decide⟩
  case exec => exact fun l s => exec_lcs l s

end Sys2Proof.Proofs

/-! SUPPORT. Building a frame (42_frame_build.md): an information frame written out and byte by byte, that it tells its
payload, and what BUILD_FRAME does within its operand limit and past it. -/

namespace Sys2Proof.Machine

/-! ### The bytes of an information frame -/

/-- Where the `LEN` byte can count the payload, the length checksum is its distance to 256 (41_link_checksum.md R75). -/
theorem lcs_len {p : Bytes} (hp : p.length ≤ 254) :
    lcs (BitVec.ofNat 8 (p.length + 1)) = BitVec.ofNat 8 (256 - (p.length + 1)) := by
  rw [lcs, len_toNat hp, Nat.mod_eq_of_lt (by omega)]

/-- A built frame as 42_frame_build.md R83 writes it out. -/
theorem buildFrame_eq (c : Byte) {a : Bytes} (ha : a.length + 1 ≤ 254) : buildFrame c a =
    [0x00, 0x00, 0xFF, BitVec.ofNat 8 (a.length + 2), BitVec.ofNat 8 (256 - (a.length + 2)), 0xD4, c] ++ a ++
      [dcs 0xD4 (c :: a), 0x00] := by
  have hlcs := lcs_len (p := c :: a) ha
  rw [buildFrame, infoFrame_eq_cons, hlcs]
  rfl

theorem infoFrame_preamble (m : Byte) (p : Bytes) : (infoFrame m p).take 3 = [0x00, 0x00, 0xFF] := rfl

theorem infoFrame_len (m : Byte) (p : Bytes) : (infoFrame m p).getD 3 0 = BitVec.ofNat 8 (p.length + 1) := rfl

theorem infoFrame_lcs (m : Byte) (p : Bytes) : (infoFrame m p).getD 4 0 = lcs ((infoFrame m p).getD 3 0) := rfl

theorem infoFrame_marker (m : Byte) (p : Bytes) : (infoFrame m p).getD 5 0 = m := rfl

/-- Behind the six bytes of the head stand the payload, the data checksum and the postamble. -/
theorem infoFrame_body (m : Byte) (p : Bytes) : (infoFrame m p).drop 6 = p ++ [dcs m p, Config.postamble] := by
  rw [infoFrame_eq_cons]
  rfl

theorem infoFrame_payload (m : Byte) (p : Bytes) : ((infoFrame m p).drop 6).take p.length = p := by
  rw [infoFrame_body]
  exact List.take_left

/-- An offset behind the payload is one of the two last bytes. -/
theorem infoFrame_getD_add (m : Byte) (p : Bytes) (k : Nat) (d : Byte) :
    (infoFrame m p).getD (p.length + 6 + k) d = [dcs m p, Config.postamble].getD k d := by
  have hskip : (infoFrame m p).getD (p.length + 6 + k) d = ((infoFrame m p).drop 6).getD (p.length + k) d := by
    rw [infoFrame_body, infoFrame_eq_cons, Nat.add_right_comm p.length 6 k]
    rfl
  rw [hskip, infoFrame_body, List.getD_append_right _ _ _ _ (Nat.le_add_right ..), Nat.add_sub_cancel_left]

theorem infoFrame_dcs (m : Byte) (p : Bytes) : (infoFrame m p).getD (p.length + 6) 0 = dcs m p :=
  infoFrame_getD_add m p 0 0

theorem infoFrame_postamble (m : Byte) (p : Bytes) : (infoFrame m p).getD (p.length + 7) 1 = 0x00 :=
  infoFrame_getD_add m p 1 1

/-- The payload is carried verbatim, so equal frames have equal payloads, of any length (42_frame_build.md R86). -/
theorem payload_eq_of_infoFrame_eq {m m' : Byte} {p p' : Bytes} (h : infoFrame m p = infoFrame m' p') : p = p' := by
  have hbody := congrArg (List.drop 6) h
  rw [infoFrame_body, infoFrame_body] at hbody
  exact List.append_inj_left' hbody rfl

/-! ### The operation -/

theorem payloadFits_iff (a : Bytes) : payloadFits a = true ↔ a.length + 1 ≤ 254 := decide_eq_true_iff

theorem sumBytes_cons (x : Byte) (p : Bytes) : sumBytes (x :: p) = x.toNat + sumBytes p := List.sum_cons

theorem exec_buildFrame {c : Byte} {a : Bytes} (ha : a.length + 1 ≤ 254) (s : State) :
    exec (.buildFrame c a) s = .next ((s.buildTx c a).setResult (.ok (buildFrame c a))) :=
  if_pos ((payloadFits_iff a).mpr ha)

/-- Past the limit the operation fails before anything is built (42_frame_build.md R85). -/
theorem exec_buildFrame_tooLong {c : Byte} {a : Bytes} (ha : 254 < a.length + 1) (s : State) :
    exec (.buildFrame c a) s = .next (s.failWith .operandRange) :=
  if_neg fun fits => Nat.not_le_of_gt ha ((payloadFits_iff a).mp fits)

/-- The accumulator of a build runs over marker, command and arguments (41_link_checksum.md R82). -/
theorem buildTx_sum_eq (s : State) (c : Byte) (a : Bytes) :
    (s.buildTx c a).sum = BitVec.ofNat 8 (0xD4 + c.toNat + sumBytes a) := by
  rw [buildTx_sum, accumulate_eq, sumBytes_cons, Nat.add_assoc]
  rfl

end Sys2Proof.Machine

namespace Sys2Proof.Proofs

open Sys2Proof.Machine

/-- Settles O13: the frame is the one R83 writes out, and past the limit only the failure is recorded. -/
theorem buildFrameOperation : Obligations.BuildFrameOperation := by
  refine ⟨fun _ _ _ hd => decode_port hd, ?built, ?tooLong⟩
  case built =>
    intro c a s ha
    refine ⟨buildFrame c a, buildFrame_eq c ha, buildFrame_length c a, ?_⟩
    rw [exec_buildFrame ha, ← buildTx_sum_eq s c a]
    rfl
  case tooLong => exact fun c a s ha => exec_buildFrame_tooLong ha s

/-- Settles O14: the fields are those of the information frame of the host's marker and `c :: a`. -/
theorem builtFrameInvariants : Obligations.BuiltFrameInvariants := by
  refine ⟨?fields, ?distinct⟩
  case fields =>
    intro c a ha
    have hpayload : ((buildFrame c a).drop 6).take (a.length + 1) = c :: a := infoFrame_payload _ (c :: a)
    have hmarker : (buildFrame c a).getD 5 0 = 0xD4 := infoFrame_marker ..
    have hdcs : (buildFrame c a).getD (a.length + 7) 0 = dcs 0xD4 (c :: a) := infoFrame_dcs _ (c :: a)
    have hlen : ((buildFrame c a).getD 3 0).toNat = a.length + 2 :=
      (congrArg BitVec.toNat (infoFrame_len _ (c :: a))).trans (len_toNat (p := c :: a) ha)
    have hlcs : (buildFrame c a).getD 4 0 = lcs ((buildFrame c a).getD 3 0) := infoFrame_lcs ..
    refine ⟨buildFrame_length c a, infoFrame_preamble .., hlen, ?lengthSum, hmarker, hpayload, ?dataSum,
      infoFrame_postamble _ (c :: a)⟩
    case lengthSum =>
      rw [hlcs]
      exact lcs_closes _
    case dataSum =>
      rw [hpayload, hmarker, hdcs]
      exact dcs_closes _ _
  case distinct =>
    intro c c' a a' h
    exact List.cons_eq_cons.mp (payload_eq_of_infoFrame_eq h)

end Sys2Proof.Proofs

/-! SUPPORT. The course of a PARSE_FRAME (43_frame_parse.md R100): which flags failed tests leave in ANOM, what a parse
has done when it has made some reads and some of its tests have failed, and every way from the head read to the ending. -/

namespace Sys2Proof.Machine

/-! ### The flags of failed tests -/

/-- `ANOM` when the tests of these flags have failed since it was cleared (10_state.md R20). -/
def anomOf (failed : List AnomFlag) : BitVec 6 := failed.foldl (fun a f => a ||| f.mask) 0

/-- The flag that one test sets: none if it holds (60_exceptions.md R136). -/
def flagUnless (holds : Bool) (f : AnomFlag) : List AnomFlag := if holds then [] else [f]

@[simp] theorem mem_flagUnless {holds : Bool} {f g : AnomFlag} : g ∈ flagUnless holds f ↔ holds = false ∧ g = f := by
  cases holds <;> simp [flagUnless]

@[simp] theorem map_flagUnless (holds : Bool) (f : AnomFlag) :
    (flagUnless holds f).map AnomFlag.logEvent = eventUnless holds f.logEvent := by
  cases holds <;> rfl

theorem flagUnless_sublist (holds : Bool) (f : AnomFlag) : (flagUnless holds f).Sublist [f] := by
  cases holds <;> simp [flagUnless]

/-- One more test, as it changes ANOM. -/
theorem anomOf_append_flagUnless (failed : List AnomFlag) (holds : Bool) (f : AnomFlag) :
    anomOf (failed ++ flagUnless holds f) = if holds then anomOf failed else anomOf failed ||| f.mask := by
  cases holds <;> simp [anomOf, flagUnless]

theorem anomHas_zero (f : AnomFlag) : anomHas 0 f = false := by cases f <;> rfl

theorem anomHas_mask (f g : AnomFlag) : anomHas f.mask g = decide (g = f) := by
  cases f <;> cases g <;> rfl

theorem anomHas_or (a b : BitVec 6) (f : AnomFlag) : anomHas (a ||| b) f = (anomHas a f || anomHas b f) :=
  BitVec.getLsbD_or

/-- A flag is set exactly if its test has failed. -/
theorem anomHas_anomOf (failed : List AnomFlag) (f : AnomFlag) : anomHas (anomOf failed) f = decide (f ∈ failed) := by
  induction failed using List.reverseRecOn with
  | nil => exact anomHas_zero f
  | append_singleton failed g ih =>
    have hstep : anomOf (failed ++ [g]) = anomOf failed ||| g.mask := by simp [anomOf]
    rw [hstep, anomHas_or, ih, anomHas_mask]
    simp

/-- Out of flags in the order of their tests, those that failed are met in the order in which they failed. -/
theorem flatMap_failed {failed all : List AnomFlag} (h : failed.Sublist all) (hall : all.Nodup) :
    (all.flatMap fun f => if f ∈ failed then [f.logEvent] else []) = failed.map AnomFlag.logEvent := by
  induction h with
  | slnil => rfl
  | cons a hsub ih =>
    obtain ⟨ha, hall⟩ := List.nodup_cons.mp hall
    have hnot : a ∉ _ := fun hm => ha (hsub.subset hm)
    rw [List.flatMap_cons, if_neg hnot, List.nil_append, ih hall]
  | cons_cons a hsub ih =>
    obtain ⟨ha, hall⟩ := List.nodup_cons.mp hall
    rw [List.flatMap_cons, if_pos List.mem_cons_self, List.map_cons, ← ih hall]
    refine congrArg (a.logEvent :: ·) (List.flatMap_congr fun f hf => ?_)
    have hne : f ≠ a := fun heq => ha (heq ▸ hf)
    simp [hne]

/-- The log events of the flags in ANOM are those of the failed tests, in the order in which they were made
(60_exceptions.md R136). -/
theorem flagEvents_anomOf {failed : List AnomFlag} (h : failed.Sublist [.pre, .lcs, .marker, .dcs, .post]) :
    flagEvents (anomOf failed) = failed.map AnomFlag.logEvent := by
  rw [← flatMap_failed (h.cons .ack) (by decide), flagEvents]
  simp only [anomHas_anomOf, decide_eq_true_eq]

/-! ### The tests of a parse -/

/-- The flags of the two tests of a head (43_frame_parse.md R92, R93). -/
def headFlags (b0 b1 b2 len c : Byte) : List AnomFlag :=
  flagUnless (decide ([b0, b1, b2] = [0x00, 0x00, 0xFF])) .pre ++
    flagUnless (decide ((len.toNat + c.toNat) % 256 = 0)) .lcs

/-- The flag of the marker test (43_frame_parse.md R96). -/
def markerFlags (m : Byte) : List AnomFlag := flagUnless (decide (m = 0xD5)) .marker

/-- The flag of the data-checksum test (43_frame_parse.md R98). -/
def dcsFlags (m : Byte) (p : Bytes) (d : Byte) : List AnomFlag :=
  flagUnless (decide ((m.toNat + sumBytes p + d.toNat) % 256 = 0)) .dcs

/-- The flag of the postamble test (43_frame_parse.md R99). -/
def postFlags (x : Byte) : List AnomFlag := flagUnless (decide (x = 0x00)) .post

@[simp] theorem mem_headFlags {b0 b1 b2 len c : Byte} {f : AnomFlag} : f ∈ headFlags b0 b1 b2 len c ↔
    [b0, b1, b2] ≠ [0x00, 0x00, 0xFF] ∧ f = .pre ∨ (len.toNat + c.toNat) % 256 ≠ 0 ∧ f = .lcs := by
  simp only [headFlags, List.mem_append, mem_flagUnless, decide_eq_false_iff_not, ne_eq]

@[simp] theorem mem_markerFlags {m : Byte} {f : AnomFlag} : f ∈ markerFlags m ↔ m ≠ 0xD5 ∧ f = .marker := by
  simp only [markerFlags, mem_flagUnless, decide_eq_false_iff_not, ne_eq]

@[simp] theorem mem_dcsFlags {m d : Byte} {p : Bytes} {f : AnomFlag} :
    f ∈ dcsFlags m p d ↔ (m.toNat + sumBytes p + d.toNat) % 256 ≠ 0 ∧ f = .dcs := by
  simp only [dcsFlags, mem_flagUnless, decide_eq_false_iff_not, ne_eq]

@[simp] theorem mem_postFlags {x : Byte} {f : AnomFlag} : f ∈ postFlags x ↔ x ≠ 0x00 ∧ f = .post := by
  simp only [postFlags, mem_flagUnless, decide_eq_false_iff_not, ne_eq]

theorem headFlags_sublist (b0 b1 b2 len c : Byte) : (headFlags b0 b1 b2 len c).Sublist [.pre, .lcs] :=
  (flagUnless_sublist _ .pre).append (flagUnless_sublist _ .lcs)

theorem markerFlags_sublist (m : Byte) : (markerFlags m).Sublist [.marker] := flagUnless_sublist ..

theorem dcsFlags_sublist (m : Byte) (p : Bytes) (d : Byte) : (dcsFlags m p d).Sublist [.dcs] := flagUnless_sublist ..

theorem postFlags_sublist (x : Byte) : (postFlags x).Sublist [.post] := flagUnless_sublist ..

/-- The accumulator closes with the checksum byte to 0 exactly if the sum is 0 modulo 256 (41_link_checksum.md R82). -/
theorem accumulate_closes (m d : Byte) (p : Bytes) :
    (accumulate m p + d == 0) = decide ((m.toNat + sumBytes p + d.toNat) % 256 = 0) := by
  rw [accumulate_eq, beq_eq_decide, decide_eq_decide, ← BitVec.toNat_inj, BitVec.toNat_add, BitVec.toNat_ofNat]
  simp

/-- A whole body is the payload and behind it the checksum byte (43_frame_parse.md R97). -/
theorem body_parts {len : Byte} {p : Bytes} (d : Byte) (hlen : p.length + 1 = len.toNat) :
    (p ++ [d]).take (len.toNat - 1) = p ∧ (p ++ [d]).getD (len.toNat - 1) 0 = d := by
  simp [← hlen]

/-! ### A parse under way -/

/-- `t` has been reached from `s`, ANOM cleared, by these reads and by tests of which these failed (43_frame_parse.md
R100): what that makes of ANOM, LOG, the history, RX, the draws and the bytes on their way to the device. -/
structure Examined (s t : State) (failed : List AnomFlag) (reads : List Event) : Prop extends SameLink s t where
  channel : t.txSent ++ t.txUnsent = s.txSent ++ s.txUnsent
  anom : t.anom = anomOf failed
  log : t.log = s.log ++ failed.map AnomFlag.logEvent
  trace : t.trace = s.trace ++ reads
  rx : (readsOf reads).flatten ++ t.rx = s.queueAfter (readsOf reads).length
  drawAt : ∀ k, t.drawAt k = s.drawAt ((readsOf reads).length + k)

/-- What is behind `n + 1` accesses is what is behind `n`, and what arrives with the next. -/
theorem queueAfter_succ (s : State) (n : Nat) : s.queueAfter (n + 1) = s.queueAfter n ++ (s.drawAt n).arrived := by
  simp [State.queueAfter, List.range_succ]

/-- The draws to come are those of the script and the count alone. -/
theorem drawAt_congr {s t : State} (hd : t.draws = s.draws) (hc : t.drawCount = s.drawCount) (k : Nat) :
    t.drawAt k = s.drawAt k := by
  simp only [State.drawAt, hd, hc]

theorem examined_clearAnom (s : State) : Examined s s.clearAnom [] [] where
  toSameLink := (reads_clearAnom s).sameLink
  channel := rfl
  anom := rfl
  log := by simp
  trace := by simp
  rx := by simp [readsOf, State.queueAfter]
  drawAt k := by simpa [readsOf] using drawAt_congr (s := s) (t := s.clearAnom) rfl rfl k

section
variable {s v : State} {failed : List AnomFlag} {reads : List Event} (hv : Examined s v failed reads)
include hv

/-- One more test. -/
theorem Examined.check (holds : Bool) (f : AnomFlag) :
    Examined s (v.check holds f) (failed ++ flagUnless holds f) reads where
  toSameLink := hv.toSameLink.trans (reads_check v holds f).sameLink
  channel := by simpa using hv.channel
  anom := by rw [check_anom, hv.anom, anomOf_append_flagUnless]
  log := by
    rw [check_log, hv.log]
    cases holds <;> simp [flagUnless]
  trace := by rw [check_trace, hv.trace]
  rx := by rw [check_rx, hv.rx]
  drawAt k := (drawAt_congr (check_draws ..) (check_drawCount ..) k).trans (hv.drawAt k)

/-- A write of HEAD, PAY or the accumulator. -/
theorem Examined.setHead (b : Bytes) : Examined s (v.setHead b) failed reads :=
  { hv with toSameLink := hv.toSameLink.trans ⟨⟨rfl, rfl, rfl, rfl⟩, rfl, rfl, rfl, rfl⟩ }

theorem Examined.setPay (b : Bytes) : Examined s (v.setPay b) failed reads :=
  { hv with toSameLink := hv.toSameLink.trans ⟨⟨rfl, rfl, rfl, rfl⟩, rfl, rfl, rfl, rfl⟩ }

theorem Examined.runSum (m : Byte) (p : Bytes) : Examined s (v.runSum m p) failed reads :=
  { hv with toSameLink := hv.toSameLink.trans ⟨⟨rfl, rfl, rfl, rfl⟩, rfl, rfl, rfl, rfl⟩ }

/-- With the reads made, and the next draw, the queue of the next read is known. -/
theorem Examined.queued :
    (readsOf reads).flatten ++ v.queued = s.queueAfter ((readsOf reads).length + 1) := by
  rw [queued_eq_drawAt, ← List.append_assoc, hv.rx, hv.drawAt, queueAfter_succ, Nat.add_zero]

/-- One more read that returned. -/
theorem Examined.read {u : State} {n : Nat} {r : Bytes} (hr : v.rxRead n = .got r u) :
    Examined s u failed (reads ++ [.rx n r]) := by
  obtain ⟨-, -, rfl, rfl⟩ := rxRead_got v n r u hr
  have hreads (r : Bytes) : readsOf (reads ++ [.rx n r]) = readsOf reads ++ [r] := readsOf_append ..
  exact
    { toSameLink := hv.toSameLink.trans ⟨⟨rfl, rfl, rfl, rfl⟩, rfl, rfl, rfl, rfl⟩
      channel := (environment_txSent_append_txUnsent v).trans hv.channel
      anom := hv.anom
      log := hv.log
      trace := by rw [takeRx_trace, hv.trace, List.append_assoc]
      rx := by simp [hreads, ← hv.queued]
      drawAt k := by
        rw [drawAt_after v _ rfl rfl, hv.drawAt, hreads, List.length_append, List.length_singleton,
          Nat.add_assoc, Nat.add_comm k 1] }

/-- With no reset in `n` accesses, there is none in those after the reads made. -/
theorem Examined.noReset {n k : Nat} (h : s.NoReset n) (hk : (readsOf reads).length + k ≤ n) : v.NoReset k := by
  intro j hj
  rw [hv.drawAt]
  exact h _ (by omega)

/-- The two tests of a whole head. -/
theorem Examined.head (b0 b1 b2 len c : Byte) :
    Examined s ((v.check ([b0, b1, b2] == Config.preamble) .pre).check (lcsOk len c) .lcs)
      (failed ++ headFlags b0 b1 b2 len c) reads := by
  have hpre : ([b0, b1, b2] == Config.preamble) = decide ([b0, b1, b2] = [0x00, 0x00, 0xFF]) := beq_eq_decide ..
  have hlcs : lcsOk len c = decide ((len.toNat + c.toNat) % 256 = 0) := beq_eq_decide ..
  rw [hpre, hlcs, headFlags, ← List.append_assoc]
  exact (hv.check ..).check ..

theorem Examined.marker (m : Byte) :
    Examined s (v.check (m == Config.deviceMarker) .marker) (failed ++ markerFlags m) reads := by
  have hm : (m == Config.deviceMarker) = decide (m = 0xD5) := beq_eq_decide ..
  rw [hm]
  exact hv.check ..

/-- A body that was read whole, and its data-checksum test. -/
theorem Examined.body {len m d : Byte} {p : Bytes} (hlen : p.length + 1 = len.toNat) :
    Examined s (v.takeBody len m (p ++ [d])) (failed ++ dcsFlags m p d) reads := by
  obtain ⟨hpay, hd⟩ := body_parts d hlen
  rw [State.takeBody, hpay, hd, runSum_sum, accumulate_closes]
  exact ((hv.setPay p).runSum m p).check ..

theorem Examined.post (x : Byte) :
    Examined s (v.check (x == Config.postamble) .post) (failed ++ postFlags x) reads := by
  have hx : (x == Config.postamble) = decide (x = 0x00) := beq_eq_decide ..
  rw [hx]
  exact hv.check ..

end

/-! ### A PARSE_FRAME that has ended -/

/-- PARSE_FRAME has ended in `t` with the result `e`, after these reads and with these tests failed (43_frame_parse.md
R101). -/
structure Concluded (s t : State) (failed : List AnomFlag) (reads : List Event) (e : Ending) : Prop
    extends SameLink s t where
  channel : t.txSent ++ t.txUnsent = s.txSent ++ s.txUnsent
  anom : t.anom = anomOf failed
  log : t.log = s.log ++ failed.map AnomFlag.logEvent ++ endingEvents e
  trace : t.trace = s.trace ++ reads
  rx : (readsOf reads).flatten ++ t.rx = s.queueAfter (readsOf reads).length
  result : t.result = { ending := e, anom := t.anom }
  resultValid : t.resultValid = true

theorem Concluded.flag {s t : State} {failed : List AnomFlag} {reads : List Event} {e : Ending}
    (ht : Concluded s t failed reads e) (f : AnomFlag) : anomHas t.anom f = decide (f ∈ failed) := by
  rw [ht.anom, anomHas_anomOf]

/-- Strict mode logs the failure into which it turns a payload (60_exceptions.md R140). -/
theorem endingEvents_strictEnding (strict : Bool) (a : BitVec 6) (p : Bytes) :
    endingEvents (strictEnding strict a p) = eventUnless (!(strict && a != 0)) .protocolViolation := by
  unfold strictEnding
  cases strict && a != 0 <;> rfl

section
variable {s v : State} {failed : List AnomFlag} {reads : List Event} (hv : Examined s v failed reads)
include hv

theorem Examined.silent : Concluded s (v.setResult .noResponse) failed reads .noResponse :=
  { hv with
    toSameLink := hv.toSameLink.trans ⟨⟨rfl, rfl, rfl, rfl⟩, rfl, rfl, rfl, rfl⟩
    log := hv.log.trans (List.append_nil _).symm
    result := rfl
    resultValid := rfl }

theorem Examined.broken : Concluded s (v.failWith .parseError) failed reads (.fail .parseError) :=
  { hv with
    toSameLink := hv.toSameLink.trans ⟨⟨rfl, rfl, rfl, rfl⟩, rfl, rfl, rfl, rfl⟩
    log := congrArg (· ++ [LogEvent.parseError]) hv.log
    result := rfl
    resultValid := rfl }

theorem Examined.delivered (p : Bytes) :
    Concluded s (v.deliver p) failed reads (strictEnding s.strict (anomOf failed) p) where
  toSameLink := hv.toSameLink.trans (sameLink_deliver v p)
  channel := by simpa using hv.channel
  anom := by rw [deliver_anom, hv.anom]
  log := by
    rw [endingEvents_strictEnding, deliver_log, hv.anom, hv.strict, ← hv.log]
    cases s.strict && anomOf failed != 0 <;> simp [eventUnless]
  trace := by rw [deliver_trace, hv.trace]
  rx := by rw [deliver_rx, hv.rx]
  result := by rw [deliver_result, deliver_anom, strictEnding, hv.anom, hv.strict]
  resultValid := deliver_resultValid v p

end

/-- How the operation ends by what its postamble read returned, the payload `p` and the failed tests at hand
(43_frame_parse.md R99, R101). -/
inductive AfterPostamble (strict : Bool) (p : Bytes) (failed : List AnomFlag) :
    Bytes → List AnomFlag → Ending → Prop where
  | missing : AfterPostamble strict p failed [] failed (.fail .parseError)
  | read (x : Byte) : AfterPostamble strict p failed [x] (failed ++ postFlags x)
      (strictEnding strict (anomOf (failed ++ postFlags x)) p)

/-- The courses a PARSE_FRAME can take: the bytes of its head read, the reads after it, the tests that fail, the ending
(43_frame_parse.md R89 to R100). -/
inductive ParseCourse (strict : Bool) : Bytes → List Event → List AnomFlag → Ending → Prop where
  | silent : ParseCourse strict [] [] [] .noResponse
  | broken (h : Bytes) (hnil : h ≠ []) (hlen : h.length ≤ 5) : ParseCourse strict h [] [] (.fail .parseError)
  | zeroLength (b0 b1 b2 c m : Byte) (x : Bytes) (failed : List AnomFlag) (e : Ending)
      (hx : AfterPostamble strict [] (headFlags b0 b1 b2 0 c) x failed e) :
      ParseCourse strict [b0, b1, b2, 0, c, m] [.rx 1 x] failed e
  | shortBody (b0 b1 b2 len c m : Byte) (body : Bytes) (hlen : body.length < len.toNat) :
      ParseCourse strict [b0, b1, b2, len, c, m] [.rx len.toNat body] (headFlags b0 b1 b2 len c ++ markerFlags m)
        (.fail .parseError)
  | wholeBody (b0 b1 b2 len c m d : Byte) (p x : Bytes) (failed : List AnomFlag) (e : Ending)
      (hlen : p.length + 1 = len.toNat)
      (hx : AfterPostamble strict p (headFlags b0 b1 b2 len c ++ markerFlags m ++ dcsFlags m p d) x failed e) :
      ParseCourse strict [b0, b1, b2, len, c, m] [.rx len.toNat (p ++ [d]), .rx 1 x] failed e

/-- How the operation ends by the outcome of its parse (43_frame_parse.md R101). -/
def Parse.endParse : Parse → Ended
  | .payload p t => .done (t.deliver p)
  | .noResponse t => .done (t.setResult .noResponse)
  | .parseError t => .done (t.failWith .parseError)
  | .abandoned t => .done t.resetBlock
  | .hung t => .hung t

theorem runParse_eq (s : State) : s.runParse = s.clearAnom.parseFrame.endParse := by
  unfold State.runParse
  cases s.clearAnom.parseFrame <;> rfl

/-- What a postamble read that ends the operation makes of it. -/
theorem parsePostamble_done {s v t : State} {failed : List AnomFlag} {reads : List Event}
    (hv : Examined s v failed reads) (hr : v.NoReset 1) (h : v.parsePostamble.endParse = .done t) :
    ∃ x failed' e, AfterPostamble s.strict v.pay failed x failed' e ∧ Concluded s t failed' (reads ++ [.rx 1 x]) e := by
  unfold State.parsePostamble at h
  split at h <;> cases h
  next u hu => exact ⟨[], _, _, .missing, (hv.read hu).broken⟩
  next x more u hu =>
    obtain rfl : more = [] := by simpa using rxRead_got_length v 1 _ u hu
    obtain ⟨-, -, -, rfl⟩ := rxRead_got v 1 _ u hu
    exact ⟨[x], _, _, .read x, ((hv.read hu).post x).delivered _⟩
  next u hu => exact absurd hu (rxRead_not_abandoned hr 1 u)

/-- What a parse makes of a head with `LEN` other than 0. -/
theorem parseBody_done {s v t : State} {b0 b1 b2 len c m : Byte} (h : s.NoReset 3) (hlen0 : len ≠ 0)
    (hv : Examined s v (headFlags b0 b1 b2 len c) [.rx 6 [b0, b1, b2, len, c, m]])
    (hdone : (v.parseBody len m).endParse = .done t) :
    ∃ more failed e, ParseCourse s.strict [b0, b1, b2, len, c, m] more failed e ∧
      Concluded s t failed (.rx 6 [b0, b1, b2, len, c, m] :: more) e := by
  have hm := hv.marker m
  unfold State.parseBody at hdone
  split at hdone
  next body u hu =>
    have hbody := hm.read hu
    split at hdone
    next hshort =>
      cases hdone
      exact ⟨_, _, _, .shortBody b0 b1 b2 len c m body hshort, hbody.broken⟩
    next hwhole =>
      have hpos : len.toNat ≠ 0 := fun h0 => hlen0 (BitVec.eq_of_toNat_eq h0)
      have hle := rxRead_got_length _ _ _ u hu
      obtain ⟨p, d, rfl⟩ : ∃ p d, body = p ++ [d] :=
        (List.eq_nil_or_concat' body).resolve_left (by rintro rfl; simp at hwhole; omega)
      have hlen : p.length + 1 = len.toNat := by simp at hwhole hle; omega
      have hpay : (u.takeBody len m (p ++ [d])).pay = p := (takeBody_pay ..).trans (body_parts d hlen).1
      have htaken := hbody.body (m := m) (d := d) hlen
      obtain ⟨x, failed, e, hx, ht⟩ := parsePostamble_done htaken (htaken.noReset h (by simp [readsOf])) hdone
      rw [hpay] at hx
      exact ⟨_, _, _, .wholeBody b0 b1 b2 len c m d p x failed e hlen hx, ht⟩
  next u hu => exact absurd hu (rxRead_not_abandoned (hm.noReset (k := 1) h (by simp [readsOf])) _ u)
  next => cases hdone

/-- What a parse makes of a whole head. -/
theorem parseHead_done {s v t : State} {b0 b1 b2 len c m : Byte} (h : s.NoReset 3)
    (hv : Examined s v [] [.rx 6 [b0, b1, b2, len, c, m]])
    (hdone : (v.parseHead b0 b1 b2 len c m).endParse = .done t) :
    ∃ more failed e, ParseCourse s.strict [b0, b1, b2, len, c, m] more failed e ∧
      Concluded s t failed (.rx 6 [b0, b1, b2, len, c, m] :: more) e := by
  have hhead := hv.head b0 b1 b2 len c
  unfold State.parseHead at hdone
  split at hdone
  next hlen =>
    subst hlen
    have hpay := hhead.setPay []
    obtain ⟨x, failed, e, hx, ht⟩ := parsePostamble_done hpay (hpay.noReset h (by simp [readsOf])) hdone
    exact ⟨_, _, _, .zeroLength b0 b1 b2 c m x failed e hx, ht⟩
  next hlen => exact parseBody_done h hlen hhead hdone

/-- Everything a PARSE_FRAME that the reset input does not interrupt can do: it takes one of the courses. -/
theorem parseCourse {s t : State} (h : s.NoReset 3) (hx : exec .parseFrame s = .next t) :
    ∃ head more failed e, head.length ≤ 6 ∧ ParseCourse s.strict head more failed e ∧
      Concluded s t failed (.rx 6 head :: more) e := by
  have hdone : s.runParse = .done t := finish_next_done (fun _ => runParse_hung) hx
  rw [runParse_eq] at hdone
  have hv := examined_clearAnom s
  cases hread : s.clearAnom.rxRead 6 with
  | got r u =>
    have hu := hv.read hread
    have hle := rxRead_got_length _ 6 r u hread
    rcases head_cases r with rfl | ⟨b0, b1, b2, len, c, m, rfl⟩ | ⟨hnil, hsix⟩
    · rw [parseFrame_got_nil hread] at hdone
      cases hdone
      exact ⟨[], _, _, _, by simp, .silent, (hu.setHead []).silent⟩
    · rw [parseFrame_got_head hread] at hdone
      obtain ⟨more, failed, e, hcourse, ht⟩ := parseHead_done h (hu.setHead _) hdone
      exact ⟨_, more, failed, e, by simp, hcourse, ht⟩
    · rw [parseFrame_got_broken hread hnil hsix] at hdone
      cases hdone
      have hlen : r.length ≤ 5 := by
        by_contra hlong
        have hlen : r.length = 6 := by omega
        match r, hlen with
        | [b0, b1, b2, len, c, m], _ => exact hsix _ _ _ _ _ _ rfl
      exact ⟨r, _, _, _, hle, .broken r hnil hlen, (hu.setHead r).broken⟩
  | abandoned u => exact absurd hread (rxRead_not_abandoned (s := s.clearAnom) h 6 u)
  | hung u =>
    rw [parseFrame_hangs hread] at hdone
    cases hdone

/-! ### What the course of a parse tells -/

/-- A payload is delivered, or strict mode withholds it because a flag is set (60_exceptions.md R140). -/
theorem strictEnding_cases (strict : Bool) (a : BitVec 6) (p : Bytes) : strictEnding strict a p = .ok p ∨
    (strict = true ∧ a ≠ 0 ∧ strictEnding strict a p = .fail .protocolViolation) := by
  unfold strictEnding
  split
  next h => exact .inr (by simpa using h)
  next => exact .inl rfl

/-- The results PARSE_FRAME can have (43_frame_parse.md R101). -/
def ParseResult (strict : Bool) (a : BitVec 6) (e : Ending) : Prop :=
  (∃ p, p.length ≤ 254 ∧ e = .ok p) ∨ e = .noResponse ∨ e = .fail .parseError ∨
    (strict = true ∧ a ≠ 0 ∧ e = .fail .protocolViolation)

section
variable {strict : Bool} {p x : Bytes} {failed failed' : List AnomFlag} {e : Ending}
  (hx : AfterPostamble strict p failed x failed' e)
include hx

theorem AfterPostamble.failed_sublist : failed'.Sublist (failed ++ [.post]) := by
  cases hx with
  | missing => exact List.sublist_append_left ..
  | read x => exact (List.Sublist.refl _).append (postFlags_sublist x)

/-- The postamble leaves the flags of the earlier tests alone. -/
theorem AfterPostamble.anomHas_eq {f : AnomFlag} (hf : f ≠ .post) :
    anomHas (anomOf failed') f = decide (f ∈ failed) := by
  cases hx with
  | missing => exact anomHas_anomOf ..
  | read x => simp [anomHas_anomOf, hf]

theorem AfterPostamble.result (hp : p.length ≤ 254) : ParseResult strict (anomOf failed') e := by
  cases hx with
  | missing => exact .inr (.inr (.inl rfl))
  | read x =>
    rcases strictEnding_cases strict (anomOf (failed ++ postFlags x)) p with hok | hfail
    · exact .inl ⟨p, hp, hok⟩
    · exact .inr (.inr (.inr hfail))

end

section
variable {strict : Bool} {h : Bytes} {more : List Event} {failed : List AnomFlag} {e : Ending}
  (hc : ParseCourse strict h more failed e)
include hc

/-- The tests are made in the order of the flags, and the comparison of the ACK is none of them. -/
theorem ParseCourse.failed_sublist : failed.Sublist [.pre, .lcs, .marker, .dcs, .post] := by
  cases hc with
  | silent | broken => exact List.nil_sublist _
  | zeroLength b0 b1 b2 c m x failed e hx =>
    exact (hx.failed_sublist.trans ((headFlags_sublist ..).append (.refl _))).trans (by decide)
  | shortBody b0 b1 b2 len c m body =>
    exact ((headFlags_sublist ..).append (markerFlags_sublist m)).trans (by decide)
  | wholeBody b0 b1 b2 len c m d p x failed e _ hx =>
    have htests := ((headFlags_sublist b0 b1 b2 len c).append (markerFlags_sublist m)).append (dcsFlags_sublist m p d)
    exact hx.failed_sublist.trans (htests.append (.refl [AnomFlag.post]))

theorem ParseCourse.ack_not_mem : .ack ∉ failed := fun hm => by simpa using hc.failed_sublist.subset hm

theorem ParseCourse.result : ParseResult strict (anomOf failed) e := by
  cases hc with
  | silent => exact .inr (.inl rfl)
  | broken | shortBody => exact .inr (.inr (.inl rfl))
  | zeroLength b0 b1 b2 c m x failed e hx => exact hx.result (Nat.zero_le _)
  | wholeBody b0 b1 b2 len c m d p x failed e hlen hx => exact hx.result (by have := len.isLt; omega)

/-- No test is made without a whole head (43_frame_parse.md R90, R91). -/
theorem ParseCourse.failed_eq_nil (hlen : h.length ≤ 5) : failed = [] := by
  cases hc with
  | silent | broken => rfl
  | zeroLength | shortBody | wholeBody => simp at hlen

end

/-- The ending by the postamble, as a claim says it of the state in which the operation has ended. -/
theorem AfterPostamble.ends {t : State} {p x : Bytes} {failed failed' : List AnomFlag} {e : Ending}
    (hx : AfterPostamble t.strict p failed x failed' e) (hpost : .post ∉ failed) (hanom : t.anom = anomOf failed')
    (he : t.result.ending = e) : t.EndsAfterPostamble x p := by
  cases hx with
  | missing => exact .inl ⟨rfl, by simp [hanom, anomHas_anomOf, hpost], he⟩
  | read y => exact .inr ⟨y, rfl, by simp [hanom, anomHas_anomOf, hpost], by rw [he, hanom]⟩

/-- The course of a parse, as a claim says it of the state in which the operation has ended. -/
theorem ParseCourse.followsReads {t : State} {h : Bytes} {more : List Event} {failed : List AnomFlag} {e : Ending}
    (hc : ParseCourse t.strict h more failed e) (hanom : t.anom = anomOf failed) (he : t.result.ending = e) :
    t.FollowsReads h more := by
  have hflag (f : AnomFlag) : anomHas t.anom f = decide (f ∈ failed) := by rw [hanom, anomHas_anomOf]
  cases hc with
  | silent =>
    exact ⟨fun _ => ⟨rfl, fun f _ => by simp [hflag], he⟩, fun h1 => by simp at h1, fun _ _ _ _ _ _ h6 => by cases h6⟩
  | broken _ hnil hlen =>
    exact ⟨fun h0 => absurd h0 hnil, fun _ _ => ⟨rfl, fun f _ => by simp [hflag], he⟩,
      fun _ _ _ _ _ _ h6 => by simp [h6] at hlen⟩
  | zeroLength b0 b1 b2 c m x failed e hx =>
    have hearlier {f : AnomFlag} (hf : f ≠ .post) : anomHas t.anom f = decide (f ∈ headFlags b0 b1 b2 0 c) := by
      rw [hanom, hx.anomHas_eq hf]
    refine ⟨nofun, fun _ h5 => (by simp at h5), fun _ _ _ _ _ _ h6 => ?_⟩
    cases h6
    have hends : t.EndsAfterPostamble x [] := hx.ends (by simp) hanom he
    exact ⟨by simp [hearlier], by simp [hearlier], fun _ => ⟨by simp [hearlier], by simp [hearlier], x, rfl, hends⟩,
      fun h0 => absurd rfl h0⟩
  | shortBody b0 b1 b2 len c m body hlen =>
    refine ⟨nofun, fun _ h5 => (by simp at h5), fun _ _ _ _ _ _ h6 => ?_⟩
    cases h6
    exact ⟨by simp [hflag], by simp [hflag], fun h0 => by simp [h0] at hlen,
      fun _ => ⟨by simp [hflag], body, .inl ⟨hlen, rfl, by simp [hflag], by simp [hflag], he⟩⟩⟩
  | wholeBody b0 b1 b2 len c m d p x failed e hlen hx =>
    have hearlier {f : AnomFlag} (hf : f ≠ .post) : anomHas t.anom f =
        decide (f ∈ headFlags b0 b1 b2 len c ++ markerFlags m ++ dcsFlags m p d) := by rw [hanom, hx.anomHas_eq hf]
    refine ⟨nofun, fun _ h5 => (by simp at h5), fun _ _ _ _ _ _ h6 => ?_⟩
    cases h6
    obtain ⟨hpay, hd⟩ := body_parts d hlen
    have hends : t.EndsAfterPostamble x ((p ++ [d]).take (len.toNat - 1)) := hpay.symm ▸ hx.ends (by simp) hanom he
    refine ⟨by simp [hearlier], by simp [hearlier], fun h0 => by simp [h0] at hlen,
      fun _ => ⟨by simp [hearlier], p ++ [d], .inr ⟨by simpa using hlen, ?_, x, rfl, hends⟩⟩⟩
    rw [hpay, hd]
    simp [hearlier]

/-- Under a bound every read ends, and so does the operation (70_reset_and_hazards.md R165). -/
theorem exec_parseFrame_bounded {s : State} (hbound : Bounded s.timeout) :
    exec .parseFrame s = .next s.runParse.state := by
  obtain ⟨n, hn⟩ := hbound
  have hexec : exec .parseFrame s = finish s.timeout s.runParse := rfl
  rw [hexec, hn, finish_finite]

end Sys2Proof.Machine

namespace Sys2Proof.Proofs

open Sys2Proof.Machine

/-- Settles O20: under a bound the operation answers next, and every course ends in one of the results. -/
theorem parseFrameCompletes : Obligations.ParseFrameCompletes := by
  refine ⟨fun _ _ _ hd => decode_port hd, ?_⟩
  intro s hbound h
  have hx : exec .parseFrame s = .next s.runParse.state := exec_parseFrame_bounded hbound
  obtain ⟨head, more, failed, e, -, hcourse, ht⟩ := parseCourse h hx
  refine ⟨_, hx, ht.resultValid, by rw [ht.result], ?ack, ?ending, ht.crc, ht.lstate, ht.timeout, ht.strict,
    ht.latches, ht.txbuf, ht.tx, ht.inputs, ht.channel⟩
  case ack => simp [ht.flag, hcourse.ack_not_mem]
  case ending =>
    rw [ht.result, ht.anom]
    exact hcourse.result

/-- Settles O21, by the courses a PARSE_FRAME can take. -/
theorem parseFollowsItsReads : Obligations.ParseFollowsItsReads := by
  intro s t h hx
  obtain ⟨head, more, failed, e, hlen, hcourse, ht⟩ := parseCourse h hx
  have he : t.result.ending = e := by rw [ht.result]
  refine ⟨head, more, ?trace, hlen, ?log, by rw [ht.result], ht.strict, ?ack, ?short, ?follows, ?rx⟩
  case trace => simp [ht.trace]
  case log => rw [ht.log, he, ht.anom, flagEvents_anomOf hcourse.failed_sublist]
  case ack => simp [ht.flag, hcourse.ack_not_mem]
  case short => exact fun hshort => by rw [ht.anom, hcourse.failed_eq_nil hshort]; rfl
  case follows => exact ParseCourse.followsReads (ht.strict ▸ hcourse) ht.anom he
  case rx => simpa [readsOf, Nat.add_comm] using ht.rx

end Sys2Proof.Proofs

/-! SUPPORT. PARSE_FRAME on a known queue: which bytes each read returns, and from them how the operation ends and what
a whole information frame gives. -/

namespace Sys2Proof.Machine

/-! ### The reads of a parse on a known queue -/

section
variable {s v : State} {failed : List AnomFlag} {reads : List Event} (hv : Examined s v failed reads)
include hv

/-- A read that the queue can fill returns the bytes behind those already read. -/
theorem Examined.rxRead_full {n : Nat} {r q : Bytes} (h : v.NoReset 1)
    (hq : s.queueAfter ((readsOf reads).length + 1) = (readsOf reads).flatten ++ (r ++ q)) (hn : r.length = n) :
    v.rxRead n = .got r (v.takeRx n n) := by
  have hqueued : v.queued = r ++ q := List.append_cancel_left (hv.queued.trans hq)
  rw [Machine.rxRead_full v n (noReset_nextDraw h) (by rw [hqueued, List.length_append]; omega), hqueued,
    List.take_left' hn]

/-- A bounded read that the queue cannot fill returns as many of those bytes as the draw says. -/
theorem Examined.rxRead_short {n : Nat} {q : Bytes} (h : v.NoReset 1) (hbound : Bounded s.timeout)
    (hq : s.queueAfter ((readsOf reads).length + 1) = (readsOf reads).flatten ++ q) (hn : q.length < n) :
    ∃ u, v.rxRead n = .got (q.take (s.drawAt (readsOf reads).length).count) u := by
  have hqueued : v.queued = q := List.append_cancel_left (hv.queued.trans hq)
  have hdraw : v.nextDraw = s.drawAt (readsOf reads).length := (nextDraw_eq_drawAt v).trans (hv.drawAt 0)
  have hread := Machine.rxRead_short (noReset_nextDraw h) (hv.timeout ▸ hbound) (hqueued ▸ hn)
  rw [hqueued, hdraw] at hread
  exact ⟨_, hread⟩

/-- Behind a body that was read whole, its tests made. -/
theorem Examined.afterBody {len m d : Byte} {p : Bytes} (hlen : p.length + 1 = len.toNat)
    (hread : (v.check (m == Config.deviceMarker) .marker).rxRead len.toNat =
      .got (p ++ [d]) ((v.check (m == Config.deviceMarker) .marker).takeRx len.toNat len.toNat)) :
    Examined s (v.afterBody len m (p ++ [d])) (failed ++ markerFlags m ++ dcsFlags m p d)
      (reads ++ [.rx len.toNat (p ++ [d])]) :=
  ((hv.marker m).read hread).body hlen

end

/-- The head read, with six bytes to be had. -/
theorem rxRead_head {s : State} {b0 b1 b2 len c m : Byte} {q : Bytes} (h : s.NoReset 1)
    (hq : s.queueAfter 1 = [b0, b1, b2, len, c, m] ++ q) :
    s.clearAnom.rxRead 6 = .got [b0, b1, b2, len, c, m] (s.clearAnom.takeRx 6 6) :=
  (examined_clearAnom s).rxRead_full (r := [b0, b1, b2, len, c, m]) h hq rfl

/-- Behind a whole head, its tests made. -/
theorem examined_afterHead {s : State} {b0 b1 b2 len c m : Byte}
    (hread : s.clearAnom.rxRead 6 = .got [b0, b1, b2, len, c, m] (s.clearAnom.takeRx 6 6)) :
    Examined s (s.clearAnom.afterHead b0 b1 b2 len c m) (headFlags b0 b1 b2 len c)
      [.rx 6 [b0, b1, b2, len, c, m]] :=
  (((examined_clearAnom s).read hread).setHead _).head b0 b1 b2 len c

theorem parseFrame_got_nonzero {s : State} {b0 b1 b2 len c m : Byte} (hlen : len ≠ 0)
    (hread : s.rxRead 6 = .got [b0, b1, b2, len, c, m] (s.takeRx 6 6)) :
    s.parseFrame = (s.afterHead b0 b1 b2 len c m).parseBody len m :=
  (parseFrame_got_head hread).trans (if_neg hlen)

theorem parseBody_got_short {s u : State} {len m : Byte} {body : Bytes}
    (hread : (s.check (m == Config.deviceMarker) .marker).rxRead len.toNat = .got body u)
    (hshort : body.length < len.toNat) : s.parseBody len m = .parseError u := by
  simp [State.parseBody, hread, hshort]

theorem parseBody_got_whole {s : State} {len m : Byte} {body : Bytes}
    (hread : (s.check (m == Config.deviceMarker) .marker).rxRead len.toNat =
      .got body ((s.check (m == Config.deviceMarker) .marker).takeRx len.toNat len.toNat))
    (hlen : body.length = len.toNat) : s.parseBody len m = (s.afterBody len m body).parsePostamble := by
  simp [State.parseBody, hread, hlen, State.afterBody]

theorem parsePostamble_got_nil {s u : State} (hread : s.rxRead 1 = .got [] u) :
    s.parsePostamble = .parseError u := by
  simp only [State.parsePostamble, hread]

/-- RX, and behind it what arrives. -/
theorem queueAfter_of_rx {s : State} {q : Bytes} (hrx : s.rx = q) (n : Nat) :
    ∃ more, s.queueAfter n = q ++ more := ⟨_, by rw [State.queueAfter, hrx]⟩

theorem ne_zero_of_length {len : Byte} {p : Bytes} (hlen : p.length + 1 = len.toNat) : len ≠ 0 := by
  rintro rfl
  simp at hlen

/-! ### PARSE_FRAME on a known queue -/

/-- A frame that stands whole in RX, `LEN` not 0 (43_frame_parse.md R100). -/
theorem exec_parseFrame_frame {s : State} {b0 b1 b2 len c m d x : Byte} {p rest : Bytes} (h : s.NoReset 3)
    (hlen : p.length + 1 = len.toNat) (hrx : s.rx = [b0, b1, b2, len, c, m] ++ ((p ++ [d]) ++ x :: rest)) :
    ∃ t, exec .parseFrame s = .next t ∧
      Concluded s t (headFlags b0 b1 b2 len c ++ markerFlags m ++ dcsFlags m p d ++ postFlags x)
        [.rx 6 [b0, b1, b2, len, c, m], .rx len.toNat (p ++ [d]), .rx 1 [x]]
        (strictEnding s.strict
          (anomOf (headFlags b0 b1 b2 len c ++ markerFlags m ++ dcsFlags m p d ++ postFlags x)) p) ∧
      t.rx = rest ++ (s.drawAt 0).arrived ++ (s.drawAt 1).arrived ++ (s.drawAt 2).arrived := by
  refine ⟨_, exec_parseFrame_payload (parseFrame_of_frame (s := s.clearAnom) h hlen hrx), ?_⟩
  obtain ⟨q1, hq1⟩ := queueAfter_of_rx hrx 1
  obtain ⟨q2, hq2⟩ := queueAfter_of_rx hrx 2
  obtain ⟨q3, hq3⟩ := queueAfter_of_rx hrx 3
  have hhead := examined_afterHead (rxRead_head (noReset_mono h (by omega)) (hq1.trans (List.append_assoc ..)))
  have hm := hhead.marker m
  have hbody := hhead.afterBody hlen (hm.rxRead_full (r := p ++ [d]) (q := x :: rest ++ q2)
    (hm.noReset h (by simp [readsOf])) (by simp [readsOf, hq2]) (by simpa using hlen))
  have hpost := hbody.read (hbody.rxRead_full (r := [x]) (q := rest ++ q3)
    (hbody.noReset h (by simp [readsOf])) (by simp [readsOf, hq3]) rfl)
  have ht := (hpost.post x).delivered p
  exact ⟨ht, by simpa [readsOf, State.queueAfter, List.range_succ, hrx] using ht.rx⟩

/-- A head with `LEN` 0 and one byte behind it (43_frame_parse.md R95). -/
theorem exec_parseFrame_zeroLength {s : State} {b0 b1 b2 c m x : Byte} {rest : Bytes} (h : s.NoReset 2)
    (hrx : s.rx = [b0, b1, b2, 0, c, m] ++ x :: rest) :
    ∃ t, exec .parseFrame s = .next t ∧
      Concluded s t (headFlags b0 b1 b2 0 c ++ postFlags x) [.rx 6 [b0, b1, b2, 0, c, m], .rx 1 [x]]
        (strictEnding s.strict (anomOf (headFlags b0 b1 b2 0 c ++ postFlags x)) []) := by
  refine ⟨_, exec_parseFrame_payload (parseFrame_of_zeroLength (s := s.clearAnom) h hrx), ?_⟩
  obtain ⟨q1, hq1⟩ := queueAfter_of_rx hrx 1
  obtain ⟨q2, hq2⟩ := queueAfter_of_rx hrx 2
  have hhead := (examined_afterHead (rxRead_head (noReset_mono h (by omega))
    (hq1.trans (List.append_assoc ..)))).setPay []
  have hpost := hhead.read (hhead.rxRead_full (r := [x]) (q := rest ++ q2)
    (hhead.noReset h (by simp [readsOf])) (by simp [readsOf, hq2]) rfl)
  exact (hpost.post x).delivered []

/-- Fewer than six bytes to be had: the head read returns what the draw says (43_frame_parse.md R90, R91). -/
theorem exec_parseFrame_shortHead {s : State} {q : Bytes} (hbound : Bounded s.timeout) (h : s.NoReset 1)
    (hq : s.queueAfter 1 = q) (hlen : q.length < 6) :
    ∃ t, exec .parseFrame s = .next t ∧ Concluded s t [] [.rx 6 (q.take (s.drawAt 0).count)]
      (if q.take (s.drawAt 0).count = [] then .noResponse else .fail .parseError) := by
  have hv := examined_clearAnom s
  obtain ⟨u, hread⟩ : ∃ u, s.clearAnom.rxRead 6 = .got (q.take (s.drawAt 0).count) u :=
    hv.rxRead_short h hbound hq hlen
  have hu := hv.read hread
  rcases head_cases (q.take (s.drawAt 0).count) with hnil | ⟨b0, b1, b2, len, c, m, hsix⟩ | ⟨hnil, hsix⟩
  · rw [hnil] at hread hu ⊢
    exact ⟨_, exec_parseFrame_noResponse (parseFrame_got_nil hread), (hu.setHead []).silent⟩
  · have hsix := congrArg List.length hsix
    simp only [List.length_take, List.length_cons, List.length_nil] at hsix
    omega
  · rw [if_neg hnil]
    exact ⟨_, exec_parseFrame_parseError (parseFrame_got_broken hread hnil hsix), (hu.setHead _).broken⟩

/-- A whole head, and fewer than `LEN` bytes to be had behind it (43_frame_parse.md R97). -/
theorem exec_parseFrame_shortBody {s : State} {b0 b1 b2 len c m : Byte} {q1 q : Bytes} (hbound : Bounded s.timeout)
    (h : s.NoReset 2) (hq1 : s.queueAfter 1 = [b0, b1, b2, len, c, m] ++ q1)
    (hq : s.queueAfter 2 = [b0, b1, b2, len, c, m] ++ q) (hlen : q.length < len.toNat) :
    ∃ t, exec .parseFrame s = .next t ∧ Concluded s t (headFlags b0 b1 b2 len c ++ markerFlags m)
      [.rx 6 [b0, b1, b2, len, c, m], .rx len.toNat (q.take (s.drawAt 1).count)] (.fail .parseError) := by
  have hlen0 : len ≠ 0 := by
    rintro rfl
    simp at hlen
  have hhead := rxRead_head (noReset_mono h (by omega)) hq1
  have hm := (examined_afterHead hhead).marker m
  obtain ⟨u, hread⟩ := hm.rxRead_short (hm.noReset h (by simp [readsOf])) hbound hq hlen
  have hshort := List.length_take_le' (s.drawAt 1).count q
  have hparse := (parseFrame_got_nonzero hlen0 hhead).trans (parseBody_got_short hread (hshort.trans_lt hlen))
  exact ⟨_, exec_parseFrame_parseError hparse, (hm.read hread).broken⟩

/-- A frame that is whole but for its postamble, and nothing more to be had (43_frame_parse.md R99). -/
theorem exec_parseFrame_noPostamble {s : State} {b0 b1 b2 len c m d : Byte} {p : Bytes} (hbound : Bounded s.timeout)
    (h : s.NoReset 3) (hlen : p.length + 1 = len.toNat)
    (hq : ∀ n, n ≤ 3 → s.queueAfter n = [b0, b1, b2, len, c, m] ++ (p ++ [d])) :
    ∃ t, exec .parseFrame s = .next t ∧
      Concluded s t (headFlags b0 b1 b2 len c ++ markerFlags m ++ dcsFlags m p d)
        [.rx 6 [b0, b1, b2, len, c, m], .rx len.toNat (p ++ [d]), .rx 1 []] (.fail .parseError) := by
  have hhead := rxRead_head (noReset_mono h (by omega)) (hq 1 (by omega))
  have hm := (examined_afterHead hhead).marker m
  have hwhole : (p ++ [d]).length = len.toNat := by simpa using hlen
  have hbody := hm.rxRead_full (q := []) (hm.noReset h (by simp [readsOf]))
    ((hq 2 (by omega)).trans (by simp [readsOf])) hwhole
  have htaken := (examined_afterHead hhead).afterBody hlen hbody
  obtain ⟨u, hread⟩ := htaken.rxRead_short (n := 1) (q := []) (htaken.noReset h (by simp [readsOf])) hbound
    ((hq 3 (by omega)).trans (by simp [readsOf])) Nat.one_pos
  rw [List.take_nil] at hread
  have hparse := (parseFrame_got_nonzero (ne_zero_of_length hlen) hhead).trans
    ((parseBody_got_whole hbody hwhole).trans (parsePostamble_got_nil hread))
  exact ⟨_, exec_parseFrame_parseError hparse, (htaken.read hread).broken⟩

/-- An information frame in RX passes every test but, for a marker that is not the device's, that of the marker
(43_frame_parse.md R100). -/
theorem exec_parseFrame_infoFrame {s : State} {m : Byte} {p rest : Bytes} (h : s.NoReset 3) (hp : p.length ≤ 254)
    (hrx : s.rx = infoFrame m p ++ rest) :
    ∃ t reads, exec .parseFrame s = .next t ∧
      Concluded s t (markerFlags m) reads (strictEnding s.strict (anomOf (markerFlags m)) p) ∧
      t.rx = rest ++ (s.drawAt 0).arrived ++ (s.drawAt 1).arrived ++ (s.drawAt 2).arrived := by
  have hhead : headFlags 0x00 0x00 0xFF (BitVec.ofNat 8 (p.length + 1)) (lcs (BitVec.ofNat 8 (p.length + 1))) = [] := by
    rw [headFlags, lcs_closes]
    rfl
  have hdata : dcsFlags m p (dcs m p) = [] := by
    rw [dcsFlags, dcs_closes]
    rfl
  have hpost : postFlags Config.postamble = [] := rfl
  rw [infoFrame_eq_cons] at hrx
  obtain ⟨t, hx, ht, hrest⟩ := exec_parseFrame_frame (b0 := 0x00) (b1 := 0x00) (b2 := 0xFF) (d := dcs m p)
    (x := Config.postamble) (rest := rest) h (len_toNat hp).symm (by simpa using hrx)
  rw [hhead, hdata, hpost, List.nil_append, List.append_nil, List.append_nil] at ht
  exact ⟨t, _, hx, ht, hrest⟩

end Sys2Proof.Machine

namespace Sys2Proof.Proofs

open Sys2Proof.Machine

/-- Settles O22: a whole frame fills the three reads, and each test is that of its bytes. -/
theorem parseReportsEveryAnomaly : Obligations.ParseReportsEveryAnomaly := by
  intro s b0 b1 b2 len c m d x p rest h hlen hrx
  obtain ⟨t, hx, ht, hrest⟩ := exec_parseFrame_frame (d := d) (x := x) h hlen (by simpa using hrx)
  refine ⟨t, hx, by simp [ht.flag], by simp [ht.flag], by simp [ht.flag], by simp [ht.flag], by simp [ht.flag],
    by simp [ht.flag], ?result, ht.resultValid, ?log, ht.trace, hrest, ht.tx, ht.lstate⟩
  case result => rw [ht.result, ht.anom]
  case log => simp [ht.log, ht.anom, endingEvents_strictEnding, headFlags, markerFlags, dcsFlags, postFlags,
    AnomFlag.logEvent]

/-- Settles O23: the length checksum of `LEN` 0 is 0, and neither the marker nor a body is tested. -/
theorem parseOfZeroLengthReadsNoBody : Obligations.ParseOfZeroLengthReadsNoBody := by
  intro s b0 b1 b2 c m x rest h hrx
  obtain ⟨t, hx, ht⟩ := exec_parseFrame_zeroLength (x := x) (rest := rest) h hrx
  have hlcs : ((0x00 : Byte).toNat + c.toNat) % 256 = 0 ↔ c = 0x00 := (eq_complement_iff 0 c).symm
  refine ⟨t, hx, by simp [ht.flag], by simp [ht.flag], ?lcs, by simp [ht.flag], by simp [ht.flag],
    by simp [ht.flag], ?result, ht.trace, ?rx⟩
  case lcs => simp only [ht.flag, List.mem_append, mem_headFlags, mem_postFlags, ne_eq, hlcs]; simp
  case result => rw [ht.result, ht.anom]
  case rx => simpa [readsOf, State.queueAfter, List.range_succ, hrx] using ht.rx

/-- Settles O24: the head read returns fewer than six bytes, and no test is made. -/
theorem parseOfShortHead : Obligations.ParseOfShortHead := by
  rintro s q h hbound hreset hq hlen rfl
  have hqueue : s.queueAfter 1 = q := by simp [hq, State.queueAfter]
  obtain ⟨t, hx, ht⟩ := exec_parseFrame_shortHead hbound hreset hqueue hlen
  refine ⟨t, hx, ht.anom, ht.trace, ?rx, ht.tx, ?silent, ?broken⟩
  case rx => simpa [readsOf, hqueue] using ht.rx
  case silent =>
    intro hnil
    exact ⟨by rw [ht.result, ht.anom, if_pos hnil]; rfl, by simp [ht.log, hnil, endingEvents]⟩
  case broken =>
    intro hnil
    exact ⟨by rw [ht.result, ht.anom, if_neg hnil]; rfl, by simp [ht.log, hnil, endingEvents, Reason.logEvent]⟩

/-- Settles O25: the head is whole, and the body read returns fewer than `LEN` bytes. -/
theorem parseOfShortBody : Obligations.ParseOfShortBody := by
  rintro s b0 b1 b2 len c m q r hbound h hq hsix hlen rfl
  have hqueue : s.queueAfter 2 = [b0, b1, b2, len, c, m] ++ q := by
    rw [← hq]
    simp [State.queueAfter, List.range_succ]
  have hhead : [b0, b1, b2, len, c, m] <+: s.rx ++ (s.drawAt 0).arrived :=
    List.prefix_of_prefix_length_le (hq ▸ List.prefix_append ..) (List.prefix_append _ (s.drawAt 1).arrived) hsix
  obtain ⟨q1, hq1⟩ := hhead
  obtain ⟨t, hx, ht⟩ := exec_parseFrame_shortBody hbound h (q1 := q1) (by simp [State.queueAfter, hq1]) hqueue hlen
  refine ⟨t, hx, by simp [ht.flag], by simp [ht.flag], by simp [ht.flag], by simp [ht.flag], by simp [ht.flag],
    by simp [ht.flag], ht.result, ?log, ht.trace, ?rx, ht.tx⟩
  case log => simp [ht.log, endingEvents, Reason.logEvent]
  case rx => simpa [readsOf, hqueue] using ht.rx

/-- Settles O26: the postamble read finds the queue empty. -/
theorem parseWithoutPostamble : Obligations.ParseWithoutPostamble := by
  intro s b0 b1 b2 len c m d p hbound h hlen hrx hsilent
  have hqueue (n : Nat) (hn : n ≤ 3) : s.queueAfter n = [b0, b1, b2, len, c, m] ++ (p ++ [d]) := by
    induction n with
    | zero => simp [State.queueAfter, hrx]
    | succ n ih => rw [queueAfter_succ, hsilent n hn, List.append_nil, ih (by omega)]
  obtain ⟨t, hx, ht⟩ := exec_parseFrame_noPostamble hbound h hlen hqueue
  refine ⟨t, hx, ht.result, by simp [ht.flag], by simp [ht.flag], ?log, ?rx, ht.trace⟩
  case log => simp [ht.log, endingEvents, Reason.logEvent]
  case rx => simpa [readsOf, hqueue] using ht.rx

/-- Settles O28: of the tests only that of the marker fails, since the frame has the host's. -/
theorem builtFrameParsesToItsPayload : Obligations.BuiltFrameParsesToItsPayload := by
  intro c a rest s ha h hrx
  obtain ⟨t, reads, hx, ht, -⟩ := exec_parseFrame_infoFrame (p := c :: a) h ha hrx
  have hanom : t.anom = 0b001000 := ht.anom
  refine ⟨t, hx, hanom, ?_⟩
  rw [ht.result, hanom]
  cases s.strict <;> rfl

/-- Settles O29: the frame has the device's marker, so no test fails. -/
theorem deviceFrameParsesClean : Obligations.DeviceFrameParsesClean := by
  intro p s u hp hrx h hu
  cases (exec_frameDeviceToHost p s).symm.trans hu
  have hframe : s.rx ++ deviceFrame p = infoFrame Config.deviceMarker p ++ [] := by
    rw [hrx, List.append_nil]
    rfl
  obtain ⟨t, reads, hx, ht, hrest⟩ :=
    exec_parseFrame_infoFrame (s := { s with rx := s.rx ++ deviceFrame p, deviceWait := true }) h hp hframe
  have hflags : markerFlags Config.deviceMarker = [] := rfl
  have hend (strict : Bool) : strictEnding strict (anomOf []) p = .ok p := by cases strict <;> rfl
  rw [hflags, hend] at ht
  exact ⟨t, hx, by rw [ht.result, ht.anom]; rfl, hrest, by simp [ht.log, endingEvents]⟩

end Sys2Proof.Proofs

/-! SUPPORT. A parse does not look at the mode, nor at the flags of earlier tests: with other ones it reads the same bytes,
makes the same tests and comes to the same end. -/

namespace Sys2Proof.Machine

/-! ### States that differ in the mode and in earlier flags -/

/-- The same state in the mode `strict`, with the flags `a` of earlier tests beside its own. -/
def State.overlay (s : State) (strict : Bool) (a : BitVec 6) : State :=
  { s with strict := strict, anom := a ||| s.anom }

/-- The outcome of a read whose states are changed by `g`. -/
def Read.map (g : State → State) : Read → Read
  | .got r t => .got r (g t)
  | .abandoned t => .abandoned (g t)
  | .hung t => .hung (g t)

/-- The outcome of a parse whose states are changed by `g`. -/
def Parse.map (g : State → State) : Parse → Parse
  | .payload p t => .payload p (g t)
  | .noResponse t => .noResponse (g t)
  | .parseError t => .parseError (g t)
  | .abandoned t => .abandoned (g t)
  | .hung t => .hung (g t)

section
variable (s : State) (strict : Bool) (a : BitVec 6)

theorem overlay_check (holds : Bool) (f : AnomFlag) :
    (s.overlay strict a).check holds f = (s.check holds f).overlay strict a := by
  cases holds with
  | true => rfl
  | false => simp [State.check, State.anomaly, State.overlay, State.logEvent, BitVec.or_assoc]

theorem overlay_rxRead (n : Nat) : (s.overlay strict a).rxRead n = (s.rxRead n).map (·.overlay strict a) := by
  have hread : (s.overlay strict a).rxRead n =
      if s.nextDraw.reset then .abandoned ((s.dropRx (min n s.nextDraw.count)).overlay strict a)
      else if s.neverFills n then .hung (s.environment.overlay strict a)
      else .got (s.queued.take (s.readLength n)) ((s.takeRx n (s.readLength n)).overlay strict a) := rfl
  rw [hread, State.rxRead]
  split
  · rfl
  split
  · rfl
  · rfl

theorem overlay_takeBody (len m : Byte) (body : Bytes) :
    (s.overlay strict a).takeBody len m body = (s.takeBody len m body).overlay strict a :=
  overlay_check ((s.setPay (body.take (len.toNat - 1))).runSum m (body.take (len.toNat - 1))) ..

theorem overlay_parsePostamble :
    (s.overlay strict a).parsePostamble = s.parsePostamble.map (·.overlay strict a) := by
  unfold State.parsePostamble
  rw [overlay_rxRead]
  cases s.rxRead 1 with
  | got r t =>
    cases r with
    | nil => rfl
    | cons x more => exact congrArg (Parse.payload t.pay) (overlay_check ..)
  | abandoned t => rfl
  | hung t => rfl

theorem overlay_parseBody (len m : Byte) :
    (s.overlay strict a).parseBody len m = (s.parseBody len m).map (·.overlay strict a) := by
  unfold State.parseBody
  rw [overlay_check, overlay_rxRead]
  cases (s.check (m == Config.deviceMarker) .marker).rxRead len.toNat with
  | got body t =>
    simp only [Read.map]
    split
    · rfl
    · rw [overlay_takeBody, overlay_parsePostamble]
  | abandoned t => rfl
  | hung t => rfl

theorem overlay_parseHead (b0 b1 b2 len c m : Byte) : (s.overlay strict a).parseHead b0 b1 b2 len c m =
    (s.parseHead b0 b1 b2 len c m).map (·.overlay strict a) := by
  simp only [State.parseHead, overlay_check]
  split
  · exact overlay_parsePostamble (State.setPay _ []) ..
  · exact overlay_parseBody ..

theorem overlay_parseFrame : (s.overlay strict a).parseFrame = s.parseFrame.map (·.overlay strict a) := by
  have hover := overlay_rxRead s strict a 6
  cases hread : s.rxRead 6 with
  | got r t =>
    rw [hread] at hover
    rcases head_cases r with rfl | ⟨b0, b1, b2, len, c, m, rfl⟩ | ⟨hnil, hsix⟩
    · rw [parseFrame_got_nil hover, parseFrame_got_nil hread]
      rfl
    · rw [parseFrame_got_head hover, parseFrame_got_head hread]
      exact overlay_parseHead (t.setHead [b0, b1, b2, len, c, m]) ..
    · rw [parseFrame_got_broken hover hnil hsix, parseFrame_got_broken hread hnil hsix]
      rfl
  | abandoned t =>
    rw [hread] at hover
    rw [parseFrame_abandoned hover, parseFrame_abandoned hread]
    rfl
  | hung t =>
    rw [hread] at hover
    rw [parseFrame_hangs hover, parseFrame_hangs hread]
    rfl

end

/-! ### How a parse ends, and what the operation makes of it -/

/-- A parse has come to a result: its last state, and how the operation ends if no mode withholds the payload. -/
inductive Parse.EndsIn : Parse → State → Ending → Prop where
  | payload (p : Bytes) (t : State) : Parse.EndsIn (.payload p t) t (.ok p)
  | noResponse (t : State) : Parse.EndsIn (.noResponse t) t .noResponse
  | parseError (t : State) : Parse.EndsIn (.parseError t) t (.fail .parseError)

theorem Parse.EndsIn.map {P : Parse} {t : State} {e : Ending} (h : P.EndsIn t e) (g : State → State) :
    (P.map g).EndsIn (g t) e := by
  cases h <;> constructor

theorem Parse.EndsIn.of_map {P : Parse} {u : State} {e : Ending} {g : State → State} (h : (P.map g).EndsIn u e) :
    ∃ t, P.EndsIn t e ∧ u = g t := by
  cases P with
  | payload p t => cases h; exact ⟨t, .payload p t, rfl⟩
  | noResponse t => cases h; exact ⟨t, .noResponse t, rfl⟩
  | parseError t => cases h; exact ⟨t, .parseError t, rfl⟩
  | abandoned t => cases h
  | hung t => cases h

theorem Parse.EndsIn.state {P : Parse} {t : State} {e : Ending} (h : P.EndsIn t e) : P.state = t := by cases h <;> rfl

/-- How PARSE_FRAME ends behind its parse (43_frame_parse.md R101). -/
def State.closeParse (s : State) : Ending → State
  | .ok p => s.deliver p
  | .noResponse => s.setResult .noResponse
  | .fail r => s.failWith r

/-- How a call ends behind the parse of its response (44_link_transaction.md R104, R110, R111). -/
def State.closeCall (s : State) : Ending → State
  | .ok p => s.ackResponse.deliver p
  | .noResponse => (s.setLink .idle).setResult .noResponse
  | .fail r => s.failCall r

theorem exec_parseFrame_endsIn {s v : State} {e : Ending} (h : s.clearAnom.parseFrame.EndsIn v e) :
    exec .parseFrame s = .next (v.closeParse e) := by
  generalize hP : s.clearAnom.parseFrame = P at h
  cases h with
  | payload p => exact exec_parseFrame_payload hP
  | noResponse => exact exec_parseFrame_noResponse hP
  | parseError => exact exec_parseFrame_parseError hP

/-- A PARSE_FRAME that the reset input does not interrupt ends behind a parse that has come to a result. -/
theorem parseFrame_endsIn {s t : State} (h : s.NoReset 3) (hx : exec .parseFrame s = .next t) :
    ∃ v e, s.clearAnom.parseFrame.EndsIn v e ∧ t = v.closeParse e := by
  cases runParse_done (finish_next_done (fun _ => runParse_hung) hx) with
  | delivered p u hp => exact ⟨u, .ok p, hp ▸ .payload p u, rfl⟩
  | silent u hp => exact ⟨u, .noResponse, hp ▸ .noResponse u, rfl⟩
  | broken u hp => exact ⟨u, .fail .parseError, hp ▸ .parseError u, rfl⟩
  | abandoned u hp => exact absurd hp (parseFrame_not_abandoned (s := s.clearAnom) h u)

/-- A call within the operand limit whose ACK read returned ends as the parse of its response does. -/
theorem exec_transact_endsIn {c : Byte} {a r : Bytes} {tmo : Duration} {s u v : State} {e : Ending}
    (ha : a.length + 1 ≤ 254) (hreset : s.nextDraw.reset = false) (hack : (s.awaitAck c a tmo).ackCheck = .got r u)
    (h : u.awaitResponse.parseFrame.EndsIn v e) : exec (.transact c a tmo) s = .next (v.closeCall e) := by
  have hresponse : u.awaitResponse.parseFrame.endCall = .done (v.closeCall e) := by
    generalize u.awaitResponse.parseFrame = P at h
    cases h <;> rfl
  have hrun : s.runTransact c a tmo = .done (v.closeCall e) := by
    rw [State.awaitAck] at hack
    rw [State.runTransact, resetAtFlush_eq, hreset, if_neg Bool.false_ne_true, hack]
    exact hresponse
  have hexec : exec (.transact c a tmo) s = finish tmo (s.runTransact c a tmo) := if_pos ((payloadFits_iff a).mpr ha)
  rw [hexec, hrun, finish_done]

/-- A call that the reset input does not interrupt ends as the parse of its response does. -/
theorem CallReturns.endsIn {s t : State} {c : Byte} {a : Bytes} {tmo : Duration} (k : CallReturns s c a tmo t) :
    ∃ r u v e, (s.awaitAck c a tmo).ackCheck = .got r u ∧ u.awaitResponse.parseFrame.EndsIn v e ∧
      t = v.closeCall e := by
  cases k with
  | delivered r u p v hack hp => exact ⟨r, u, v, .ok p, hack, hp ▸ .payload p v, rfl⟩
  | silent r u v hack hp => exact ⟨r, u, v, .noResponse, hack, hp ▸ .noResponse v, rfl⟩
  | broken r u v hack hp => exact ⟨r, u, v, .fail .parseError, hack, hp ▸ .parseError v, rfl⟩

/-! ### Strict mode -/

/-- What strict mode makes of the end of an operation in the other mode (44_link_transaction.md R115): a payload with a flag
set becomes a failure, with its log event. -/
def State.madeStrict (t : State) : State :=
  if t.result.ending.kindCode = 0 ∧ t.anom ≠ 0 then
    { t with
      strict := true
      log := t.log ++ [.protocolViolation]
      result := { ending := .fail .protocolViolation, anom := t.result.anom } }
  else { t with strict := true }

theorem overlay_true_zero (s : State) : s.overlay true 0 = { s with strict := true } := by
  simp [State.overlay]

/-- Without strict mode a payload is delivered (60_exceptions.md R140). -/
theorem deliver_of_not_strict {v : State} (hv : v.strict = false) (p : Bytes) : v.deliver p = v.setResult (.ok p) := by
  rw [State.deliver, hv]
  rfl

theorem deliver_overlay {v : State} (hv : v.strict = false) (p : Bytes) :
    (v.overlay true 0).deliver p = (v.deliver p).madeStrict := by
  rw [deliver_of_not_strict hv, overlay_true_zero]
  by_cases hanom : v.anom = 0
  · simp [State.madeStrict, State.deliver, State.setResult, hanom]
  · have hwithheld : ({ v with strict := true } : State).deliver p =
        State.failWith { v with strict := true } .protocolViolation := if_pos (by simpa using hanom)
    rw [hwithheld, State.madeStrict, if_pos ⟨rfl, hanom⟩]
    rfl

/-- An ending that is no payload is the same in both modes. -/
theorem madeStrict_of_kindCode {t : State} (h : t.result.ending.kindCode ≠ 0) :
    t.madeStrict = { t with strict := true } := if_neg fun hk => h hk.1

theorem closeParse_overlay {v : State} (hv : v.strict = false) (e : Ending) :
    (v.overlay true 0).closeParse e = (v.closeParse e).madeStrict := by
  cases e with
  | ok p => exact deliver_overlay hv p
  | noResponse | fail => rw [madeStrict_of_kindCode (by simp [State.closeParse, Ending.kindCode]), overlay_true_zero]; rfl

theorem closeCall_overlay {v : State} (hv : v.strict = false) (e : Ending) :
    (v.overlay true 0).closeCall e = (v.closeCall e).madeStrict := by
  cases e with
  | ok p => exact deliver_overlay (v := v.ackResponse) hv p
  | noResponse | fail => rw [madeStrict_of_kindCode (by simp [State.closeCall, Ending.kindCode]), overlay_true_zero]; rfl

theorem overlay_clearAnom (s : State) (strict : Bool) :
    (s.overlay strict 0).clearAnom = s.clearAnom.overlay strict 0 := by
  simp [State.overlay, State.clearAnom]

theorem overlay_awaitAck (s : State) (strict : Bool) (c : Byte) (a : Bytes) (tmo : Duration) :
    (s.overlay strict 0).awaitAck c a tmo = (s.awaitAck c a tmo).overlay strict 0 := by
  have hopen : (s.overlay strict 0).openCall tmo = (s.openCall tmo).overlay strict 0 := by
    rw [State.openCall, overlay_clearAnom]
    rfl
  rw [State.awaitAck, hopen]
  rfl

theorem overlay_awaitResponse (s : State) (strict : Bool) (a : BitVec 6) :
    (s.overlay strict a).awaitResponse = s.awaitResponse.overlay strict a := rfl

theorem ackCheck_of_rxRead {s u : State} {r : Bytes} (h : s.rxRead 6 = .got r u) :
    s.ackCheck = .got r (u.check (r == Config.ack) .ack) := by
  unfold State.ackCheck
  rw [h]

theorem overlay_ackCheck {s u : State} {r : Bytes} (strict : Bool) (a : BitVec 6) (h : s.ackCheck = .got r u) :
    (s.overlay strict a).ackCheck = .got r (u.overlay strict a) := by
  obtain ⟨w, hw, rfl⟩ := ackCheck_got s r u h
  have hread : (s.overlay strict a).rxRead 6 = .got r (w.overlay strict a) := by rw [overlay_rxRead, hw]; rfl
  rw [ackCheck_of_rxRead hread, overlay_check]

/-- A PARSE_FRAME in strict mode (44_link_transaction.md R115). -/
theorem exec_parseFrame_overlay {s t : State} (hs : s.strict = false) (h : s.NoReset 3)
    (hx : exec .parseFrame s = .next t) : exec .parseFrame (s.overlay true 0) = .next t.madeStrict := by
  obtain ⟨v, e, hP, rfl⟩ := parseFrame_endsIn h hx
  have hv : v.strict = false := hP.state ▸ (reads_parseFrame s.clearAnom).strict.trans hs
  rw [← closeParse_overlay hv]
  refine exec_parseFrame_endsIn ?_
  rw [overlay_clearAnom, overlay_parseFrame]
  exact hP.map _

/-- A call in strict mode (44_link_transaction.md R115). -/
theorem exec_transact_overlay {c : Byte} {a : Bytes} {tmo : Duration} {s t : State} (hs : s.strict = false)
    (ha : a.length + 1 ≤ 254) (h : s.NoReset 5) (hx : exec (.transact c a tmo) s = .next t) :
    exec (.transact c a tmo) (s.overlay true 0) = .next t.madeStrict := by
  obtain ⟨r, u, v, e, hack, hP, rfl⟩ := (transact_returns ha h hx).endsIn
  have hv : v.strict = false := hP.state ▸ (sameSettings_response hack rfl).strict.trans hs
  rw [← closeCall_overlay hv]
  refine exec_transact_endsIn ha (noReset_nextDraw (s := s) h)
    ((congrArg _ (overlay_awaitAck ..)).trans (overlay_ackCheck true 0 hack)) ?_
  rw [overlay_awaitResponse, overlay_parseFrame]
  exact hP.map _

/-- Past the operand limit a call fails before anything is done (44_link_transaction.md R105). -/
theorem exec_transact_tooLong {c : Byte} {a : Bytes} (tmo : Duration) (ha : 254 < a.length + 1) (s : State) :
    exec (.transact c a tmo) s = .next (s.failWith .operandRange) :=
  if_neg fun fits => Nat.not_le_of_gt ha ((payloadFits_iff a).mp fits)

end Sys2Proof.Machine

namespace Sys2Proof.Proofs

open Sys2Proof.Machine

/-- Settles O15: both operations examine the length before they do anything. -/
theorem operandRangeFailsBeforeAnyEffect : Obligations.OperandRangeFailsBeforeAnyEffect := by
  rintro c a tmo s ha i (rfl | rfl)
  · exact exec_buildFrame_tooLong ha s
  · exact exec_transact_tooLong tmo ha s

/-- Settles O35: the two runs make the same parse, and only the ending examines the mode. -/
theorem strictModeChangesTheResultOnly : Obligations.StrictModeChangesTheResultOnly := by
  intro i s t hi h hx
  have hstrict : ({ s with strict := true } : State) = State.overlay { s with strict := false } true 0 :=
    (overlay_true_zero _).symm
  rw [hstrict]
  obtain rfl | ⟨c, a, tmo, rfl⟩ := hi
  · exact exec_parseFrame_overlay rfl (noReset_mono (s := { s with strict := false }) h (by omega)) hx
  · by_cases ha : a.length + 1 ≤ 254
    · exact exec_transact_overlay rfl ha h hx
    · rw [exec_transact_tooLong tmo (by omega)] at hx ⊢
      cases hx
      exact congrArg _ (closeParse_overlay (v := { s with strict := false }) rfl (.fail .operandRange))

end Sys2Proof.Proofs

/-! SUPPORT. The course of a call (44_link_transaction.md R104): behind its ACK read it parses the response as a PARSE_FRAME
would, so the courses of a parse are those of a call. -/

namespace Sys2Proof.Machine

/-! ### The parse of a response -/

/-- `t` has been reached from `s` by a parse that made these reads and of whose tests these failed (43_frame_parse.md R100);
flags that were set before stay set. -/
structure Parsed (s t : State) (failed : List AnomFlag) (reads : List Event) : Prop extends SameLink s t where
  channel : t.txSent ++ t.txUnsent = s.txSent ++ s.txUnsent
  anom : t.anom = s.anom ||| anomOf failed
  log : t.log = s.log ++ failed.map AnomFlag.logEvent
  trace : t.trace = s.trace ++ reads
  rx : (readsOf reads).flatten ++ t.rx = s.queueAfter (readsOf reads).length

/-- The same state in the mode that withholds nothing. -/
def State.lenient (s : State) : State := { s with strict := false }

theorem overlay_lenient (s : State) : s.lenient.clearAnom.overlay s.strict s.anom = s := by
  simp [State.overlay, State.clearAnom, State.lenient]

theorem parseFrame_lenient (s : State) :
    s.parseFrame = s.lenient.clearAnom.parseFrame.map (·.overlay s.strict s.anom) := by
  rw [← overlay_parseFrame, overlay_lenient]

/-- Without strict mode PARSE_FRAME ends as its parse did. -/
theorem closeParse_lenient {v : State} (hv : v.strict = false) (e : Ending) :
    v.closeParse e = State.setResult { v with log := v.log ++ endingEvents e } e := by
  cases e with
  | ok p => simp only [State.closeParse, deliver_of_not_strict hv, endingEvents, List.append_nil]
  | noResponse => simp only [State.closeParse, endingEvents, List.append_nil]
  | fail r => rfl

/-- What a PARSE_FRAME without strict mode tells of its parse, it tells of the same parse in either mode and with flags set
before. -/
theorem Concluded.parsed {s v : State} {failed : List AnomFlag} {reads : List Event} {e e' : Ending}
    (hv : v.strict = false) (ht : Concluded s.lenient (v.closeParse e) failed reads e') :
    e' = e ∧ Parsed s (v.overlay s.strict s.anom) failed reads := by
  rw [closeParse_lenient hv] at ht
  obtain rfl : e = e' := congrArg Result.ending ht.result
  refine ⟨rfl, ⟨⟨⟨ht.crc, rfl, ht.latches, ht.inputs⟩, ht.lstate, ht.timeout, ht.txbuf, ht.tx⟩, ht.channel, ?_,
    List.append_cancel_right ht.log, ht.trace, ht.rx⟩⟩
  exact congrArg (s.anom ||| ·) ht.anom

/-- Everything a parse that the reset input does not interrupt can do, in whatever state it starts. -/
theorem parseFrame_course {s v : State} {e : Ending} (h : s.NoReset 3) (hP : s.parseFrame.EndsIn v e) :
    ∃ head more failed, head.length ≤ 6 ∧ ParseCourse false head more failed e ∧
      Parsed s v failed (.rx 6 head :: more) := by
  rw [parseFrame_lenient] at hP
  obtain ⟨v, hlenient, rfl⟩ : ∃ w, s.lenient.clearAnom.parseFrame.EndsIn w e ∧ v = w.overlay s.strict s.anom :=
    hP.of_map
  have hv : v.strict = false := hlenient.state ▸ (reads_parseFrame s.lenient.clearAnom).strict
  obtain ⟨head, more, failed, e', hlen, hcourse, ht⟩ := parseCourse (s := s.lenient) h (exec_parseFrame_endsIn hlenient)
  obtain ⟨rfl, hparsed⟩ := ht.parsed hv
  exact ⟨head, more, failed, hlen, hcourse, hparsed⟩

/-! ### A call before its response -/

/-- The flag of the comparison of the ACK (43_frame_parse.md R102). -/
def ackFlags (r : Bytes) : List AnomFlag := flagUnless (decide (r = [0x00, 0x00, 0xFF, 0x00, 0xFF, 0x00])) .ack

@[simp] theorem mem_ackFlags {r : Bytes} {f : AnomFlag} :
    f ∈ ackFlags r ↔ r ≠ [0x00, 0x00, 0xFF, 0x00, 0xFF, 0x00] ∧ f = .ack := by
  simp only [ackFlags, mem_flagUnless, decide_eq_false_iff_not, ne_eq]

theorem anomOf_append (xs ys : List AnomFlag) : anomOf (xs ++ ys) = anomOf xs ||| anomOf ys := by
  induction ys using List.reverseRecOn with
  | nil => simp [anomOf]
  | append_singleton ys f ih =>
    have hstep (zs : List AnomFlag) : anomOf (zs ++ [f]) = anomOf zs ||| f.mask := by simp [anomOf]
    rw [← List.append_assoc, hstep, hstep, ih, BitVec.or_assoc]

/-- As its ACK read starts a call has made no read and no test. -/
theorem examined_awaitAck (s : State) (c : Byte) (a : Bytes) (tmo : Duration) :
    Examined (s.awaitAck c a tmo) (s.awaitAck c a tmo) [] [] where
  toSameLink := (Reads.refl _).sameLink
  channel := rfl
  anom := rfl
  log := by simp
  trace := by simp
  rx := by simp [readsOf, State.queueAfter]
  drawAt k := by simp [readsOf]

/-- Behind its ACK read, the comparison made (43_frame_parse.md R102). -/
theorem examined_ackCheck {s u : State} {c : Byte} {a r : Bytes} {tmo : Duration}
    (hack : (s.awaitAck c a tmo).ackCheck = .got r u) :
    Examined (s.awaitAck c a tmo) u (ackFlags r) [.rx 6 r] := by
  obtain ⟨w, hw, rfl⟩ := ackCheck_got _ r u hack
  have hr : (r == Config.ack) = decide (r = [0x00, 0x00, 0xFF, 0x00, 0xFF, 0x00]) := beq_eq_decide ..
  rw [hr]
  exact ((examined_awaitAck s c a tmo).read hw).check ..

/-- The queue that the reads of a call find: the flush emptied RX (44_link_transaction.md R107). -/
theorem awaitAck_queueAfter (s : State) (c : Byte) (a : Bytes) (tmo : Duration) (n : Nat) :
    (s.awaitAck c a tmo).queueAfter n = s.arrivedBy n := by
  have hdraw (k : Nat) : (s.awaitAck c a tmo).drawAt k = s.drawAt (k + 1) := drawAt_after s _ rfl rfl k
  have hrx : (s.awaitAck c a tmo).rx = [] := rfl
  simp [State.queueAfter, State.arrivedBy, hdraw, hrx]

/-- What is behind later accesses, as it is seen from the start of the reads. -/
theorem Examined.queueAfter {s v : State} {failed : List AnomFlag} {reads : List Event}
    (hv : Examined s v failed reads) (n : Nat) :
    (readsOf reads).flatten ++ v.queueAfter n = s.queueAfter ((readsOf reads).length + n) := by
  induction n with
  | zero => simpa [State.queueAfter] using hv.rx
  | succ n ih => rw [queueAfter_succ, ← List.append_assoc, ih, hv.drawAt, ← Nat.add_assoc, queueAfter_succ]

/-- The queue that the response of a call is parsed from. -/
theorem awaitResponse_queueAfter {s u : State} {c : Byte} {a r : Bytes} {tmo : Duration}
    (hack : (s.awaitAck c a tmo).ackCheck = .got r u) (n : Nat) :
    r ++ u.awaitResponse.queueAfter n = s.arrivedBy (1 + n) := by
  have hqueue := (examined_ackCheck hack).queueAfter n
  rw [awaitAck_queueAfter] at hqueue
  replace hqueue : [r].flatten ++ u.awaitResponse.queueAfter n = s.arrivedBy (1 + n) := hqueue
  rwa [List.flatten_singleton] at hqueue

/-! ### How a call ends -/

/-- How an operation ends in its mode, its parse having ended in this way (60_exceptions.md R140). -/
def Ending.inMode (strict : Bool) (anom : BitVec 6) : Ending → Ending
  | .ok p => strictEnding strict anom p
  | .noResponse => .noResponse
  | .fail r => .fail r

/-- The events of a call behind its response (44_link_transaction.md R106, R110). -/
def Ending.closing : Ending → List Event
  | .ok _ => [.tx Config.ack, .link .responseParsed, .link .idle]
  | .noResponse => [.link .idle]
  | .fail _ => [.link .idle]

section
variable (v : State) (e : Ending)

theorem sameSettings_closeCall : SameSettings v (v.closeCall e) := by
  cases e with
  | ok p =>
    have hack : SameSettings v v.ackResponse := ⟨rfl, rfl, rfl, rfl⟩
    exact hack.trans (sameSettings_deliver v.ackResponse p)
  | noResponse | fail => exact ⟨rfl, rfl, rfl, rfl⟩

@[simp] theorem closeCall_lstate : (v.closeCall e).lstate = .idle := by
  cases e with
  | ok p => exact deliver_lstate v.ackResponse p
  | noResponse | fail => rfl

@[simp] theorem closeCall_timeout : (v.closeCall e).timeout = v.timeout := by
  cases e with
  | ok p => exact deliver_timeout v.ackResponse p
  | noResponse | fail => rfl

@[simp] theorem closeCall_anom : (v.closeCall e).anom = v.anom := by
  cases e with
  | ok p => exact deliver_anom v.ackResponse p
  | noResponse | fail => rfl

@[simp] theorem closeCall_rx : (v.closeCall e).rx = v.rx := by
  cases e with
  | ok p => exact deliver_rx v.ackResponse p
  | noResponse | fail => rfl

@[simp] theorem closeCall_resultValid : (v.closeCall e).resultValid = true := by
  cases e with
  | ok p => exact deliver_resultValid v.ackResponse p
  | noResponse | fail => rfl

@[simp] theorem closeCall_result :
    (v.closeCall e).result = { ending := e.inMode v.strict v.anom, anom := v.anom } := by
  cases e with
  | ok p => exact deliver_result v.ackResponse p
  | noResponse | fail => rfl

@[simp] theorem closeCall_log : (v.closeCall e).log = v.log ++ endingEvents (e.inMode v.strict v.anom) := by
  cases e with
  | ok p =>
    have hlog : (v.closeCall (.ok p)).log =
        if v.strict && v.anom != 0 then v.log ++ [.protocolViolation] else v.log := deliver_log v.ackResponse p
    rw [hlog, Ending.inMode, endingEvents_strictEnding]
    cases v.strict && v.anom != 0 <;> simp [eventUnless]
  | noResponse => exact (List.append_nil _).symm
  | fail r => rfl

@[simp] theorem closeCall_tx : (v.closeCall e).tx = v.tx ++ writtenBy e.closing := by
  cases e with
  | ok p => exact (deliver_tx v.ackResponse p).trans (by simp [State.ackResponse, Ending.closing, writtenBy])
  | noResponse | fail => exact (List.append_nil _).symm

/-- The ACK that is written back waits behind the bytes on their way to the device. -/
theorem closeCall_channel : (v.closeCall e).txSent ++ (v.closeCall e).txUnsent =
    v.txSent ++ v.txUnsent ++ writtenBy e.closing := by
  cases e with
  | ok p => simp [State.closeCall, State.ackResponse, Ending.closing, writtenBy]
  | noResponse | fail => exact (List.append_nil _).symm

@[simp] theorem closeCall_trace : (v.closeCall e).trace = v.trace ++ e.closing := by
  cases e with
  | ok p => exact (deliver_trace v.ackResponse p).trans (ackResponse_trace v)
  | noResponse | fail => rfl

/-- The ACK consumes the device's wait state (44_link_transaction.md R110). -/
theorem closeCall_deviceWait (p : Bytes) : (v.closeCall (.ok p)).deviceWait = false :=
  deliver_deviceWait v.ackResponse p

end

/-- The history of a call up to its head read (44_link_transaction.md R106). -/
def callOpening (c : Byte) (a r h : Bytes) : List Event :=
  [.flush, .tx (buildFrame c a), .link .frameSent, .link .ackAwaited, .rx 6 r, .link .ackVerified,
    .link .responseAwaited, .rx 6 h]

/-- A call has ended in `t`: its ACK read returned `r`, its head read `h`, then it made the reads `more`; these tests failed,
and the parse of the response ended in `e` (44_link_transaction.md R104). -/
structure Called (s : State) (c : Byte) (a : Bytes) (tmo : Duration) (t : State) (r h : Bytes) (more : List Event)
    (failed : List AnomFlag) (e : Ending) : Prop extends SameSettings s t where
  lstate : t.lstate = .idle
  timeout : t.timeout = tmo
  resultValid : t.resultValid = true
  anom : t.anom = anomOf failed
  result : t.result = { ending := e.inMode s.strict t.anom, anom := t.anom }
  log : t.log = s.log ++ failed.map AnomFlag.logEvent ++ endingEvents t.result.ending
  tx : t.tx = s.tx ++ buildFrame c a ++ writtenBy e.closing
  channel : t.txSent ++ t.txUnsent =
    s.txSent ++ s.txUnsent.take (s.drawAt 0).sent ++ buildFrame c a ++ writtenBy e.closing
  deviceWait : ∀ p, e = .ok p → t.deviceWait = false
  trace : t.trace = s.trace ++ callOpening c a r h ++ more ++ e.closing
  rx : r ++ h ++ (readsOf more).flatten ++ t.rx = s.arrivedBy (2 + (readsOf more).length)

/-- What the parse of its response tells of a call. -/
theorem called_of_parsed {s u v : State} {c : Byte} {a r h : Bytes} {tmo : Duration} {more : List Event}
    {failed : List AnomFlag} {e : Ending} (hack : (s.awaitAck c a tmo).ackCheck = .got r u)
    (hv : Parsed u.awaitResponse v failed (.rx 6 h :: more)) :
    Called s c a tmo (v.closeCall e) r h more (ackFlags r ++ failed) e := by
  have hu := examined_ackCheck hack
  have hsame : SameSettings s v := ((sameSettings_awaitAck s c a tmo).trans hu.toSameSettings).trans
    ((sameSettings_awaitResponse u).trans hv.toSameSettings)
  have hanom : v.anom = anomOf (ackFlags r ++ failed) := by
    rw [hv.anom, anomOf_append, ← hu.anom]
    rfl
  have hlog : v.log = s.log ++ (ackFlags r ++ failed).map AnomFlag.logEvent := by
    have hulog : u.awaitResponse.log = s.log ++ (ackFlags r).map AnomFlag.logEvent := hu.log
    rw [hv.log, hulog, List.map_append, List.append_assoc]
  have htx : v.tx = s.tx ++ buildFrame c a := hv.tx.trans hu.tx
  have hchannel : v.txSent ++ v.txUnsent = s.txSent ++ s.txUnsent.take (s.drawAt 0).sent ++ buildFrame c a := by
    rw [← nextDraw_eq_drawAt]
    exact hv.channel.trans hu.channel
  have htrace : v.trace = s.trace ++ callOpening c a r h ++ more := by
    rw [hv.trace, awaitResponse_trace, hu.trace, awaitAck_trace]
    simp [callOpening]
  exact
    { toSameSettings := hsame.trans (sameSettings_closeCall v e)
      lstate := closeCall_lstate v e
      timeout := (closeCall_timeout v e).trans (hv.timeout.trans hu.timeout)
      resultValid := closeCall_resultValid v e
      anom := (closeCall_anom v e).trans hanom
      result := by rw [closeCall_result, closeCall_anom, hsame.strict]
      log := by rw [closeCall_log, closeCall_result, hlog]
      tx := by rw [closeCall_tx, htx]
      channel := by rw [closeCall_channel, hchannel]
      deviceWait := by rintro p rfl; exact closeCall_deviceWait v p
      trace := by rw [closeCall_trace, htrace]
      rx := by
        have hqueue := awaitResponse_queueAfter hack (1 + (readsOf more).length)
        have hrx : h ++ (readsOf more).flatten ++ v.rx = u.awaitResponse.queueAfter (1 + (readsOf more).length) := by
          simpa [readsOf, Nat.add_comm] using hv.rx
        rw [closeCall_rx, List.append_assoc r, List.append_assoc r, hrx, hqueue, ← Nat.add_assoc] }

/-- Everything a call within the operand limit can do that the reset input does not interrupt. -/
theorem call_course {s t : State} {c : Byte} {a : Bytes} {tmo : Duration} (ha : a.length + 1 ≤ 254)
    (hreset : s.NoReset 5) (hx : exec (.transact c a tmo) s = .next t) :
    ∃ r h more failed e, ParseCourse false h more failed e ∧
      Called s c a tmo t r h more (ackFlags r ++ failed) e := by
  obtain ⟨r, u, v, e, hack, hP, rfl⟩ := (transact_returns ha hreset hx).endsIn
  have hu : u.NoReset 3 := noReset_ackCheck_got (noReset_awaitAck hreset c a tmo) hack
  obtain ⟨h, more, failed, -, hcourse, hv⟩ := parseFrame_course (s := u.awaitResponse) hu hP
  exact ⟨r, h, more, failed, e, hcourse, called_of_parsed hack hv⟩

/-- Under a bound a call comes to an end (70_reset_and_hazards.md R165). -/
theorem exec_transact_bounded {c : Byte} {a : Bytes} {tmo : Duration} (hbound : Bounded tmo) (s : State) :
    ∃ t, exec (.transact c a tmo) s = .next t := by
  obtain ⟨n, rfl⟩ := hbound
  by_cases fits : payloadFits a = true
  · exact ⟨_, if_pos fits⟩
  · exact ⟨_, if_neg fits⟩

end Sys2Proof.Machine

/-! SUPPORT. What the course of a call tells: its flags and their log events, and how its response has gone, as a claim says
it of the state in which the call has ended. -/

namespace Sys2Proof.Machine

section
variable {s t : State} {c : Byte} {a r h : Bytes} {tmo : Duration} {more : List Event} {failed : List AnomFlag}
  {e : Ending} (ht : Called s c a tmo t r h more failed e)
include ht

theorem Called.flag (f : AnomFlag) : anomHas t.anom f = decide (f ∈ failed) := by
  rw [ht.anom, anomHas_anomOf]

theorem Called.ending : t.result.ending = e.inMode s.strict t.anom := congrArg Result.ending ht.result

end

/-- The endings of a parse that strict mode leaves alone (43_frame_parse.md, opening). -/
theorem ParseCourse.ending_cases {h : Bytes} {more : List Event} {failed : List AnomFlag} {e : Ending}
    (hc : ParseCourse false h more failed e) :
    (∃ p, p.length ≤ 254 ∧ e = .ok p) ∨ e = .noResponse ∨ e = .fail .parseError := by
  rcases hc.result with hok | hsilent | hbroken | ⟨hstrict, -⟩
  · exact .inl hok
  · exact .inr (.inl hsilent)
  · exact .inr (.inr hbroken)
  · cases hstrict

/-- Behind the head read a parse makes no access but reads. -/
theorem ParseCourse.more_reads {strict : Bool} {h : Bytes} {more : List Event} {failed : List AnomFlag} {e : Ending}
    (hc : ParseCourse strict h more failed e) : ∀ x ∈ more, ∃ n g, x = .rx n g := by
  cases hc <;> simp

/-- The tests of a call are made in the order of the flags (60_exceptions.md R136). -/
theorem ParseCourse.call_sublist {strict : Bool} {r h : Bytes} {more : List Event} {failed : List AnomFlag} {e : Ending}
    (hc : ParseCourse strict h more failed e) :
    (ackFlags r ++ failed).Sublist [.ack, .pre, .lcs, .marker, .dcs, .post] :=
  (flagUnless_sublist _ .ack).append hc.failed_sublist

/-- The log events of the flags of a call are those of its failed tests, in the order in which they were made. -/
theorem flagEvents_anomOf_call {failed : List AnomFlag} (h : failed.Sublist [.ack, .pre, .lcs, .marker, .dcs, .post]) :
    flagEvents (anomOf failed) = failed.map AnomFlag.logEvent := by
  rw [← flatMap_failed h (by decide), flagEvents]
  simp only [anomHas_anomOf, decide_eq_true_eq]

/-! ### From an operation without strict mode to one in either mode -/

/-- `u` has ended without strict mode, `t` as `u` did but in its own mode, and the ACK flag apart they have the same
flags. -/
structure InMode (u t : State) : Prop where
  lenient : u.strict = false
  flag : ∀ f : AnomFlag, f ≠ .ack → anomHas t.anom f = anomHas u.anom f
  ending : t.result.ending = u.result.ending.inMode t.strict t.anom

section
variable {u t : State} (hm : InMode u t)
include hm

theorem InMode.fail {r : Reason} (he : u.result.ending = .fail r) : t.result.ending = .fail r := by
  rw [hm.ending, he]
  rfl

theorem InMode.noParseFlag (h : u.NoParseFlag) : t.NoParseFlag := fun f hf => (hm.flag f hf).trans (h f hf)

theorem InMode.endsAfterPostamble {x p : Bytes} (h : u.EndsAfterPostamble x p) : t.EndsAfterPostamble x p := by
  obtain ⟨hx, hpost, he⟩ | ⟨y, hx, hpost, he⟩ := h
  · exact .inl ⟨hx, (hm.flag .post (by decide)).trans hpost, hm.fail he⟩
  · have hok : u.result.ending = .ok p := by rw [he, hm.lenient]; rfl
    exact .inr ⟨y, hx, (hm.flag .post (by decide)).trans hpost, by rw [hm.ending, hok]; rfl⟩

theorem InMode.followsReads {h : Bytes} {more : List Event} (hf : u.FollowsReads h more) : t.FollowsReads h more := by
  obtain ⟨hsilent, hbroken, hwhole⟩ := hf
  refine ⟨fun h0 => ?silent, fun h1 h5 => ?broken, fun b0 b1 b2 len c m h6 => ?whole⟩
  case silent =>
    obtain ⟨hmore, hflags, he⟩ := hsilent h0
    exact ⟨hmore, hm.noParseFlag hflags, by rw [hm.ending, he]; rfl⟩
  case broken =>
    obtain ⟨hmore, hflags, he⟩ := hbroken h1 h5
    exact ⟨hmore, hm.noParseFlag hflags, hm.fail he⟩
  case whole =>
    obtain ⟨hpre, hlcs, hzero, hbody⟩ := hwhole b0 b1 b2 len c m h6
    rw [hm.flag .pre (by decide), hm.flag .lcs (by decide), hm.flag .marker (by decide), hm.flag .dcs (by decide),
      hm.flag .post (by decide)]
    refine ⟨hpre, hlcs, fun h0 => ?_, fun h0 => ?_⟩
    · obtain ⟨hmarker, hdcs, x, hx, hends⟩ := hzero h0
      exact ⟨hmarker, hdcs, x, hx, hm.endsAfterPostamble hends⟩
    · obtain ⟨hmarker, body, ⟨hlen, hmore, hdcs, hpost, he⟩ | ⟨hlen, hdcs, x, hx, hends⟩⟩ := hbody h0
      · exact ⟨hmarker, body, .inl ⟨hlen, hmore, hdcs, hpost, hm.fail he⟩⟩
      · exact ⟨hmarker, body, .inr ⟨hlen, hdcs, x, hx, hm.endsAfterPostamble hends⟩⟩

end

/-- The response of a call has gone by the bytes of its reads as a PARSE_FRAME would (43_frame_parse.md R89 to R99). -/
theorem Called.followsReads {s t : State} {c : Byte} {a r h : Bytes} {tmo : Duration} {more : List Event}
    {failed : List AnomFlag} {e : Ending} (ht : Called s c a tmo t r h more (ackFlags r ++ failed) e)
    (hc : ParseCourse false h more failed e) : t.FollowsReads h more := by
  have hm : InMode
      { t with strict := false, anom := anomOf failed, result := { ending := e, anom := anomOf failed } } t :=
    { lenient := rfl
      flag := fun f hf => by simp [ht.flag, anomHas_anomOf, hf]
      ending := by rw [ht.ending, ht.strict] }
  exact hm.followsReads (ParseCourse.followsReads hc rfl rfl)

/-- The accesses of a call behind its reads: the ACK if a payload was parsed (44_link_transaction.md R110). -/
def Ending.ackWritten : Ending → List Event
  | .ok _ => [.tx Config.ack]
  | .noResponse => []
  | .fail _ => []

theorem accesses_closing (e : Ending) : accesses e.closing = e.ackWritten := by cases e <;> rfl

theorem readsOf_ackWritten (e : Ending) : readsOf e.ackWritten = [] := by cases e <;> rfl

theorem accesses_callOpening (c : Byte) (a r h : Bytes) :
    accesses (callOpening c a r h) = [.flush, .tx (buildFrame c a), .rx 6 r, .rx 6 h] := rfl

theorem accesses_of_reads {es : List Event} (h : ∀ x ∈ es, ∃ n g, x = .rx n g) : accesses es = es := by
  refine List.filter_eq_self.mpr fun x hx => ?_
  obtain ⟨n, g, rfl⟩ := h x hx
  rfl

/-- The accesses of a call are its opening, its reads, and the ACK it may write. -/
theorem Called.accesses {s t : State} {c : Byte} {a r h : Bytes} {tmo : Duration} {more : List Event}
    {failed : List AnomFlag} {e : Ending} (ht : Called s c a tmo t r h more failed e)
    (hreads : ∀ x ∈ more, ∃ n g, x = .rx n g) : accesses t.trace =
      accesses s.trace ++ [.flush, .tx (buildFrame c a), .rx 6 r, .rx 6 h] ++ (more ++ e.ackWritten) := by
  rw [ht.trace, accesses_append, accesses_append, accesses_append, accesses_callOpening, accesses_of_reads hreads,
    accesses_closing, List.append_assoc]

/-- The table of 44_link_transaction.md R114: the head read, the accesses behind it, and the ending, `mode` being how a
payload ends the call. -/
def CallRows (h : Bytes) (tail : List Event) (mode : Bytes → Ending) (e : Ending) : Prop :=
  (h = [] ∧ tail = [] ∧ e = .noResponse) ∨
  (1 ≤ h.length ∧ h.length ≤ 5 ∧ tail = [] ∧ e = .fail .parseError) ∨
  (h.length = 6 ∧ ∃ n : Nat, n = (h.getD 3 0).toNat ∧
    ((1 ≤ n ∧ ∃ b, b.length < n ∧ tail = [.rx n b] ∧ e = .fail .parseError) ∨
     (1 ≤ n ∧ ∃ b, b.length = n ∧ tail = [.rx n b, .rx 1 []] ∧ e = .fail .parseError) ∨
     (n = 0 ∧ tail = [.rx 1 []] ∧ e = .fail .parseError) ∨
     (1 ≤ n ∧ ∃ b x, b.length = n ∧ tail = [.rx n b, .rx 1 [x], .tx Config.ack] ∧ e = mode (b.take (n - 1))) ∨
     (n = 0 ∧ ∃ x, tail = [.rx 1 [x], .tx Config.ack] ∧ e = mode [])))

/-- Every course of a parse gives a row of the table. -/
theorem ParseCourse.callRows {h : Bytes} {more : List Event} {failed : List AnomFlag} {e : Ending}
    (hc : ParseCourse false h more failed e) (strict : Bool) (anom : BitVec 6) :
    CallRows h (more ++ e.ackWritten) (strictEnding strict anom) (e.inMode strict anom) := by
  cases hc with
  | silent => exact .inl ⟨rfl, rfl, rfl⟩
  | broken h hnil hlen => exact .inr (.inl ⟨List.length_pos_iff.mpr hnil, hlen, rfl, rfl⟩)
  | zeroLength b0 b1 b2 c m x failed e hx =>
    refine .inr (.inr ⟨rfl, 0, rfl, ?_⟩)
    cases hx with
    | missing => exact .inr (.inr (.inl ⟨rfl, rfl, rfl⟩))
    | read x => exact .inr (.inr (.inr (.inr ⟨rfl, x, rfl, rfl⟩)))
  | shortBody b0 b1 b2 len c m body hlen =>
    exact .inr (.inr ⟨rfl, len.toNat, rfl, .inl ⟨by omega, body, hlen, rfl, rfl⟩⟩)
  | wholeBody b0 b1 b2 len c m d p x failed e hlen hx =>
    have hwhole : (p ++ [d]).length = len.toNat := by simpa using hlen
    refine .inr (.inr ⟨rfl, len.toNat, rfl, ?_⟩)
    cases hx with
    | missing => exact .inr (.inl ⟨by omega, p ++ [d], hwhole, rfl, rfl⟩)
    | read x =>
      refine .inr (.inr (.inr (.inl ⟨by omega, p ++ [d], x, hwhole, rfl, ?_⟩)))
      rw [(body_parts d hlen).1]
      rfl

end Sys2Proof.Machine

namespace Sys2Proof.Proofs

open Sys2Proof.Machine

/-- Settles O34: every course of a call has the same opening, and closes by its ending. -/
theorem callPassesTheLinkStates : Obligations.CallPassesTheLinkStates := by
  intro c a tmo s t ha hreset hx
  obtain ⟨r, h, more, failed, e, hcourse, ht⟩ := call_course ha hreset hx
  refine ⟨ht.lstate, r, h, more, e.closing, ht.trace, hcourse.more_reads, ?_⟩
  rw [ht.ending]
  obtain ⟨p, -, rfl⟩ | rfl | rfl := hcourse.ending_cases
  · exact .inl ⟨rfl, p, rfl⟩
  · exact .inr ⟨rfl, .inl rfl⟩
  · exact .inr ⟨rfl, .inr rfl⟩

/-- Settles O30: under a bound the call answers next, and writes the ACK exactly on the courses that deliver a payload. -/
theorem callCompletesAndAcksWhatItParsed : Obligations.CallCompletesAndAcksWhatItParsed := by
  intro c a tmo s ha hbound hreset
  obtain ⟨t, hx⟩ := exec_transact_bounded (c := c) (a := a) hbound s
  obtain ⟨r, h, more, failed, e, hcourse, ht⟩ := call_course ha hreset hx
  have htx := ht.tx
  have hchannel := ht.channel
  refine ⟨t, hx, ht.lstate, ht.timeout, ht.resultValid, by rw [ht.result], ht.crc, ht.strict, ht.latches, ht.inputs, ?_⟩
  rw [ht.ending]
  obtain ⟨p, hp, rfl⟩ | rfl | rfl := hcourse.ending_cases
  · exact .inl ⟨htx, ht.deviceWait p rfl, hchannel, p, hp, rfl⟩
  · exact .inr ⟨htx.trans (List.append_nil _), hchannel.trans (List.append_nil _), .inl rfl⟩
  · exact .inr ⟨htx.trans (List.append_nil _), hchannel.trans (List.append_nil _), .inr rfl⟩

/-- Settles O33: the flags and the ending follow from the reads as in a PARSE_FRAME, and each course is a row of the table
of R114. -/
theorem callEventsFollowTheEnding : Obligations.CallEventsFollowTheEnding := by
  intro c a tmo s t ha hreset hx
  obtain ⟨r, h, more, failed, e, hcourse, ht⟩ := call_course ha hreset hx
  have hreads : readsOf (more ++ e.ackWritten) = readsOf more := by
    rw [readsOf_append, readsOf_ackWritten, List.append_nil]
  refine ⟨r, h, more ++ e.ackWritten, ht.accesses hcourse.more_reads, ?ack, ?log, by rw [ht.result], ht.strict,
    ⟨more, ?tail, ht.followsReads hcourse⟩, ?rx, ?rows⟩
  case ack => simp [ht.flag, hcourse.ack_not_mem]
  case log => rw [ht.log, ht.anom, flagEvents_anomOf_call hcourse.call_sublist]
  case tail =>
    cases e with
    | ok p => exact .inr rfl
    | noResponse | fail => exact .inl (List.append_nil more)
  case rx => rw [hreads, ht.rx]
  case rows =>
    rw [ht.ending]
    exact hcourse.callRows s.strict t.anom

end Sys2Proof.Proofs

/-! SUPPORT. A call with every read full: each byte of the ACK and of the response arrives before the read that takes it. -/

namespace Sys2Proof.Machine

theorem parsePostamble_got {s u : State} {x : Byte} (hread : s.rxRead 1 = .got [x] u) :
    s.parsePostamble = .payload u.pay (u.check (x == Config.postamble) .post) := by
  simp only [State.parsePostamble, hread]

/-- What has arrived stays in front of what arrives later. -/
theorem queueAfter_prefix (s : State) {n k : Nat} (h : n ≤ k) : s.queueAfter n <+: s.queueAfter k := by
  induction h with
  | refl => exact List.prefix_refl _
  | step _ ih =>
    rw [queueAfter_succ]
    exact ih.trans (List.prefix_append ..)

/-- The bytes that are there early enough are the first of all that come. -/
theorem queueAfter_of_length {s : State} {n k : Nat} {q rest : Bytes} (hn : n ≤ k) (hq : s.queueAfter k = q ++ rest)
    (hlen : q.length ≤ (s.queueAfter n).length) : ∃ more, s.queueAfter n = q ++ more := by
  obtain ⟨more, hmore⟩ : q <+: s.queueAfter n :=
    List.prefix_of_prefix_length_le (hq ▸ List.prefix_append ..) (queueAfter_prefix s hn) hlen
  exact ⟨more, hmore.symm⟩

/-- A frame, `LEN` not 0, each part of which is there when its read ends (43_frame_parse.md R100). -/
theorem parseFrame_arriving {s : State} {b0 b1 b2 len c m d x : Byte} {p rest : Bytes} (h : s.NoReset 3)
    (hlen : p.length + 1 = len.toNat) (hq : s.queueAfter 3 = [b0, b1, b2, len, c, m] ++ ((p ++ [d]) ++ x :: rest))
    (hhead : 6 ≤ (s.queueAfter 1).length) (hbody : 6 + len.toNat ≤ (s.queueAfter 2).length) :
    ∃ t, s.clearAnom.parseFrame = .payload p t ∧
      Examined s t (headFlags b0 b1 b2 len c ++ markerFlags m ++ dcsFlags m p d ++ postFlags x)
        [.rx 6 [b0, b1, b2, len, c, m], .rx len.toNat (p ++ [d]), .rx 1 [x]] := by
  have hwhole : (p ++ [d]).length = len.toNat := by simpa using hlen
  obtain ⟨q1, hq1⟩ := queueAfter_of_length (n := 1) (by omega) hq hhead
  obtain ⟨q2, hq2⟩ := queueAfter_of_length (n := 2) (by omega) (hq.trans (List.append_assoc ..).symm)
    (by rw [List.length_append, hwhole]; exact hbody)
  have hread := rxRead_head (noReset_mono h (by omega)) hq1
  have hafter := examined_afterHead hread
  have hm := hafter.marker m
  have hfull := hm.rxRead_full (q := q2) (hm.noReset h (by simp [readsOf])) (by simp [readsOf, hq2]) hwhole
  have htaken := hafter.afterBody hlen hfull
  have hpost := htaken.rxRead_full (r := [x]) (q := rest) (htaken.noReset h (by simp [readsOf]))
    (by simp [readsOf, hq]) rfl
  have hpay : ((s.clearAnom.afterHead b0 b1 b2 len c m).afterBody len m (p ++ [d])).pay = p :=
    (takeBody_pay ..).trans (body_parts d hlen).1
  refine ⟨_, ?_, (htaken.read hpost).post x⟩
  rw [parseFrame_got_nonzero (ne_zero_of_length hlen) hread, parseBody_got_whole hfull hwhole, parsePostamble_got hpost,
    takeRx_pay, hpay]

/-- What a parse without strict mode and with no flag set before delivers, it delivers in every state. -/
theorem parsed_of_lenient {s v : State} {p : Bytes} {failed : List AnomFlag} {reads : List Event}
    (hparse : s.lenient.clearAnom.parseFrame = .payload p v) (hv : Examined s.lenient v failed reads) :
    ∃ t, s.parseFrame = .payload p t ∧ Parsed s t failed reads := by
  refine ⟨v.overlay s.strict s.anom, by rw [parseFrame_lenient, hparse]; rfl, ?_⟩
  exact ((hv.delivered p).parsed (e := .ok p) hv.strict).2

/-- The head of an information frame passes its tests (42_frame_build.md R83, 41_link_checksum.md R75). -/
theorem headFlags_infoFrame (len : Byte) : headFlags 0x00 0x00 0xFF len (lcs len) = [] := by
  rw [headFlags, lcs_closes]
  rfl

/-- The data checksum of an information frame passes its test (41_link_checksum.md R76). -/
theorem dcsFlags_infoFrame (m : Byte) (p : Bytes) : dcsFlags m p (dcs m p) = [] := by
  rw [dcsFlags, dcs_closes]
  rfl

/-- A call with every read full (44_link_transaction.md R104). -/
theorem exec_transact_frame {s : State} {cmd a0 a1 a2 a3 a4 a5 b0 b1 b2 len c m d x : Byte} {args p rest : Bytes}
    (tmo : Duration) (hargs : args.length + 1 ≤ 254) (h : s.NoReset 5) (hlen : p.length + 1 = len.toNat)
    (hq : s.arrivedBy 4 = [a0, a1, a2, a3, a4, a5] ++ ([b0, b1, b2, len, c, m] ++ ((p ++ [d]) ++ x :: rest)))
    (hack : 6 ≤ (s.arrivedBy 1).length) (hhead : 12 ≤ (s.arrivedBy 2).length)
    (hbody : 12 + len.toNat ≤ (s.arrivedBy 3).length) :
    ∃ t, exec (.transact cmd args tmo) s = .next t ∧
      Called s cmd args tmo t [a0, a1, a2, a3, a4, a5] [b0, b1, b2, len, c, m]
        [.rx len.toNat (p ++ [d]), .rx 1 [x]]
        (ackFlags [a0, a1, a2, a3, a4, a5] ++
          (headFlags b0 b1 b2 len c ++ markerFlags m ++ dcsFlags m p d ++ postFlags x)) (.ok p) ∧
      t.rx = rest := by
  have hawait := noReset_awaitAck h cmd args tmo
  rw [← awaitAck_queueAfter s cmd args tmo] at hq hack
  obtain ⟨q1, hq1⟩ := queueAfter_of_length (n := 1) (by omega) hq hack
  have hread := (examined_awaitAck s cmd args tmo).rxRead_full (r := [a0, a1, a2, a3, a4, a5])
    (noReset_mono hawait (by omega)) hq1 rfl
  have hcheck := ackCheck_of_rxRead hread
  generalize ((s.awaitAck cmd args tmo).takeRx 6 6).check ([a0, a1, a2, a3, a4, a5] == Config.ack) .ack = u at hcheck
  have hqueue (n : Nat) : [a0, a1, a2, a3, a4, a5] ++ u.awaitResponse.lenient.queueAfter n = s.arrivedBy (1 + n) :=
    awaitResponse_queueAfter hcheck n
  have hlength (n : Nat) : (s.arrivedBy (1 + n)).length = 6 + (u.awaitResponse.lenient.queueAfter n).length := by
    rw [← hqueue, List.length_append]
    rfl
  rw [awaitAck_queueAfter] at hq
  have hu : u.NoReset 3 := noReset_ackCheck_got hawait hcheck
  obtain ⟨v, hparse, hv⟩ := parseFrame_arriving (s := u.awaitResponse.lenient) (d := d) (x := x) (rest := rest) hu hlen
    (List.append_cancel_left ((hqueue 3).trans hq)) (by rw [hlength 1] at hhead; omega)
    (by rw [hlength 2] at hbody; omega)
  obtain ⟨w, hw, hparsed⟩ := parsed_of_lenient hparse hv
  have ht := called_of_parsed (e := .ok p) hcheck hparsed
  refine ⟨_, exec_transact_endsIn hargs (noReset_nextDraw h) hcheck (hw ▸ .payload p w), ht, ?_⟩
  have hrx := ht.rx.trans hq
  simpa [readsOf] using hrx

end Sys2Proof.Machine

namespace Sys2Proof.Proofs

open Sys2Proof.Machine

/-- Settles O31: each of the four reads returns its part of what arrives, and each test is that of its bytes. -/
theorem callReportsEveryAnomaly : Obligations.CallReportsEveryAnomaly := by
  intro s cmd args tmo a0 a1 a2 a3 a4 a5 b0 b1 b2 len c m d x p rest hargs h hlen hq hack hhead hbody
  obtain ⟨t, hx, ht, hrest⟩ := exec_transact_frame (d := d) (x := x) (rest := rest) tmo hargs h hlen (by simpa using hq)
    hack hhead hbody
  refine ⟨t, hx, by simp [ht.flag, Config.ack], by simp [ht.flag], by simp [ht.flag], by simp [ht.flag],
    by simp [ht.flag], by simp [ht.flag], ht.result, ?log, ?accesses, hrest, ht.lstate, ht.timeout⟩
  case log =>
    simp [ht.log, ht.ending, Ending.inMode, endingEvents_strictEnding, ackFlags, headFlags, markerFlags, dcsFlags,
      postFlags, AnomFlag.logEvent, Config.ack]
  case accesses => simpa [Ending.ackWritten] using ht.accesses (by simp)

/-- Settles O32: the ACK is as it should be, and a device's frame passes every test. -/
theorem cleanCallDeliversThePayload : Obligations.CleanCallDeliversThePayload := by
  intro s c a p tmo ha hp h hq hack hhead hbody
  have hlen : p.length + 1 = (BitVec.ofNat 8 (p.length + 1)).toNat := (len_toNat hp).symm
  rw [deviceFrame, infoFrame_eq_cons] at hq
  obtain ⟨t, hx, ht, hrest⟩ := exec_transact_frame (cmd := c) (b0 := 0x00) (b1 := 0x00) (b2 := 0xFF)
    (d := dcs Config.deviceMarker p) (x := Config.postamble) (rest := []) tmo ha h hlen
    (by simpa [Config.ack] using hq) hack hhead (by omega)
  rw [headFlags_infoFrame, dcsFlags_infoFrame] at ht
  have hanom : t.anom = 0 := ht.anom
  have hok : (Ending.ok p).inMode s.strict 0 = .ok p := by cases s.strict <;> rfl
  have hresult : t.result = { ending := .ok p, anom := 0 } := by rw [ht.result, hanom, hok]
  have hlog : t.log = s.log ++ [] ++ endingEvents t.result.ending := ht.log
  exact ⟨t, hx, hresult, hanom, ht.tx, hrest, ht.lstate, by simpa [hresult, endingEvents] using hlog⟩

end Sys2Proof.Proofs

/-! SUPPORT. The numeric codes of a result (60_exceptions.md R135): an ending that is not `Fail` has no reason. -/

namespace Sys2Proof.Machine

/-- 60_exceptions.md R135: "`reason` is 0 when `kind` is not `Fail`". -/
theorem reasonCode_of_ne_fail {e : Ending} (h : ∀ r, e ≠ .fail r) : e.reasonCode = 0 := by
  cases e with
  | ok | noResponse => rfl
  | fail r => exact absurd rfl (h r)

end Sys2Proof.Machine

namespace Sys2Proof.Proofs

open Sys2Proof.Machine

/-- Settles O17: the two endings that are not `Fail` have no reason; every other code is an entry of R135's table. -/
theorem outcomeCodes : Obligations.OutcomeCodes := by
  refine ⟨?ok, rfl, reasonCode_of_ne_fail nofun, ?fail, rfl, rfl, rfl, rfl, ?masks⟩
  case ok => exact fun _ => ⟨rfl, reasonCode_of_ne_fail nofun⟩
  case fail => exact fun _ => ⟨rfl, rfl⟩
  case masks => decide

end Sys2Proof.Proofs

/-! SUPPORT. Requests outside `IDLE`, and reads that never return (70_reset_and_hazards.md R160, R165). -/

namespace Sys2Proof.Machine

theorem request_outside_idle {s : State} (h : s.lstate ≠ .idle) (w : PortWord) :
    s.request w = .refused .operationInProgress := if_neg h

/-- Without bound a read that the queue cannot fill never returns (93_implementation_defined.md U6). -/
theorem rxRead_hangs {s : State} {n : Nat} (hr : s.nextDraw.reset = false) (ht : s.timeout = .unbounded)
    (hn : s.queued.length < n) : s.rxRead n = .hung s.environment := by
  have hnever : s.neverFills n = true := by simp [State.neverFills, ht, hn]
  rw [State.rxRead, hr, if_neg Bool.false_ne_true, if_pos hnever]

/-- The queue of the next read is RX and what arrives with one access. -/
theorem queued_eq_queueAfter (s : State) : s.queued = s.queueAfter 1 := by
  simp [queued_eq_drawAt, State.queueAfter]

/-- The flush of a call has emptied RX before its ACK read (44_link_transaction.md R107). -/
theorem awaitAck_queued (s : State) (c : Byte) (a : Bytes) (tmo : Duration) :
    (s.awaitAck c a tmo).queued = s.arrivedBy 1 := by
  rw [queued_eq_queueAfter, awaitAck_queueAfter]

theorem awaitAck_drawAt (s : State) (c : Byte) (a : Bytes) (tmo : Duration) (k : Nat) :
    (s.awaitAck c a tmo).drawAt k = s.drawAt (k + 1) := drawAt_after s _ rfl rfl k

theorem ackCheck_of_abandoned {s u : State} (h : s.rxRead 6 = .abandoned u) : s.ackCheck = .abandoned u := by
  unfold State.ackCheck
  rw [h]

theorem ackCheck_of_hung {s u : State} (h : s.rxRead 6 = .hung u) : s.ackCheck = .hung u := by
  unfold State.ackCheck
  rw [h]

/-! ### The course of a call by the outcome of its accesses -/

/-- Within the operand limit the instruction is the course of the call (44_link_transaction.md R105). -/
theorem exec_transact_fits {c : Byte} {a : Bytes} (tmo : Duration) (ha : a.length + 1 ≤ 254) (s : State) :
    exec (.transact c a tmo) s = finish tmo (s.runTransact c a tmo) := if_pos ((payloadFits_iff a).mpr ha)

section
variable {s : State} {c : Byte} {a : Bytes} {tmo : Duration}

theorem runTransact_of_resetAtFlush (hr : s.nextDraw.reset = true) :
    s.runTransact c a tmo = .done (s.openCall tmo).resetBlock := by
  rw [State.runTransact, resetAtFlush_eq, if_pos hr]

theorem runTransact_of_ack_abandoned {u : State} (hr : s.nextDraw.reset = false)
    (hack : (s.awaitAck c a tmo).ackCheck = .abandoned u) : s.runTransact c a tmo = .done u.resetBlock := by
  rw [State.awaitAck] at hack
  rw [State.runTransact, resetAtFlush_eq, hr, if_neg Bool.false_ne_true, hack]

theorem runTransact_of_ack_hung {u : State} (hr : s.nextDraw.reset = false)
    (hack : (s.awaitAck c a tmo).ackCheck = .hung u) : s.runTransact c a tmo = .hung u := by
  rw [State.awaitAck] at hack
  rw [State.runTransact, resetAtFlush_eq, hr, if_neg Bool.false_ne_true, hack]

/-- Behind its ACK read a call goes as the parse of its response does. -/
theorem runTransact_of_ack_got {u : State} {r : Bytes} (hr : s.nextDraw.reset = false)
    (hack : (s.awaitAck c a tmo).ackCheck = .got r u) :
    s.runTransact c a tmo = u.awaitResponse.parseFrame.endCall := by
  rw [State.awaitAck] at hack
  rw [State.runTransact, resetAtFlush_eq, hr, if_neg Bool.false_ne_true, hack]
  rfl

end

end Sys2Proof.Machine

namespace Sys2Proof.Proofs

open Sys2Proof.Machine

/-- Settles O43: the port accepts a request in `IDLE` only. -/
theorem requestOutsideIdleIsRefused : Obligations.RequestOutsideIdleIsRefused := by
  intro s w rest hin hidle
  rw [step_input hin, State.handle, request_outside_idle (s := { s with inputs := rest }) hidle]

/-- Settles O38: the head read of a PARSE_FRAME, and the ACK read of a call behind its flush, never return. -/
theorem readWithoutBoundNeverReturns : Obligations.ReadWithoutBoundNeverReturns := by
  constructor
  · intro s htimeout hreset hlen
    have hread : s.clearAnom.rxRead 6 = .hung s.clearAnom.environment :=
      rxRead_hangs (noReset_nextDraw (s := s) hreset) htimeout ((congrArg List.length (queued_eq_drawAt s)).trans_lt hlen)
    have hrun : s.runParse = .hung s.clearAnom.environment := by rw [runParse_eq, parseFrame_hangs hread]; rfl
    have hexec : exec .parseFrame s = finish s.timeout s.runParse := rfl
    rw [hexec, htimeout, hrun]
    rfl
  · intro c a s ha hreset hlen
    have hqueued : (s.awaitAck c a .unbounded).queued = (s.drawAt 1).arrived := by
      rw [awaitAck_queued]
      simp [State.arrivedBy]
    have hread := rxRead_hangs (n := 6) (noReset_nextDraw (noReset_awaitAck hreset c a .unbounded))
      (awaitAck_timeout ..) (hqueued ▸ hlen)
    rw [exec_transact_fits .unbounded ha,
      runTransact_of_ack_hung (noReset_nextDraw hreset) (ackCheck_of_hung hread)]
    rfl

end Sys2Proof.Proofs

/-! SUPPORT. Two calls that find the same environment: the flush empties RX and a call begins by writing what it reads, so
the two go through their accesses alike (70_reset_and_hazards.md R161). -/

namespace Sys2Proof.Machine

@[simp] theorem closeCall_draws (v : State) (e : Ending) : (v.closeCall e).draws = v.draws := by
  cases e with
  | ok p => exact deliver_draws v.ackResponse p
  | noResponse | fail => rfl

@[simp] theorem closeCall_drawCount (v : State) (e : Ending) : (v.closeCall e).drawCount = v.drawCount := by
  cases e with
  | ok p => exact deliver_drawCount v.ackResponse p
  | noResponse | fail => rfl

/-- Behind their flushes two states that agree in the mode and the environment are alike, whatever RX held. -/
theorem alike_awaitAck {s u : State} (hstrict : u.strict = s.strict) (hdraws : u.draws = s.draws)
    (hcount : u.drawCount = s.drawCount) (c : Byte) (a : Bytes) (tmo : Duration) :
    Alike s u (s.awaitAck c a tmo) (u.awaitAck c a tmo) where
  strict := hstrict
  timeout := rfl
  rx := rfl
  draws := congrArg List.tail hdraws
  drawCount := congrArg (· + 1) hcount
  anom := rfl
  since := ⟨_, [], awaitAck_trace s c a tmo, awaitAck_trace u c a tmo, (List.append_nil _).symm, (List.append_nil _).symm⟩

section
variable {s u a b : State} (h : Alike s u a b)
include h

/-- The same bytes are compared with the ACK. -/
theorem Alike.ackCheck_got {r : Bytes} {a' : State} (hack : a.ackCheck = .got r a') :
    ∃ b', b.ackCheck = .got r b' ∧ Alike s u a' b' := by
  obtain ⟨v, hv, rfl⟩ := Machine.ackCheck_got a r a' hack
  rcases h.rxRead 6 with ⟨k, ha, hb⟩ | ⟨k, ha, -⟩ | ⟨ha, -⟩
  · cases ha.symm.trans hv
    exact ⟨_, ackCheck_of_rxRead hb, (h.takeRx 6 k).check ..⟩
  · cases ha.symm.trans hv
  · cases ha.symm.trans hv

theorem Alike.awaitResponse : Alike s u a.awaitResponse b.awaitResponse :=
  h.grow [.link .ackVerified, .link .responseAwaited] [] h.strict h.timeout h.rx h.draws h.drawCount h.anom
    (awaitResponse_trace a) (awaitResponse_trace b) (List.append_nil _).symm (List.append_nil _).symm

theorem Alike.closeCall (e : Ending) : EndsAlike s u (a.closeCall e) (b.closeCall e) where
  toAlike := h.grow e.closing (endingEvents (e.inMode a.strict a.anom))
    (by rw [(sameSettings_closeCall b e).strict, (sameSettings_closeCall a e).strict, h.strict])
    (by simp [h.timeout]) (by simp [h.rx]) (by simp [h.draws]) (by simp [h.drawCount]) (by simp [h.anom])
    (closeCall_trace a e) (closeCall_trace b e) (closeCall_log a e) (by rw [closeCall_log, h.strict, h.anom])
  result := by rw [closeCall_result, closeCall_result, h.strict, h.anom]

end

/-- Two parses that go alike end alike. -/
theorem ParsesAlike.endsIn {s u v : State} {P Q : Parse} {e : Ending} (h : ParsesAlike s u P Q) (hP : P.EndsIn v e) :
    ∃ w, Q.EndsIn w e ∧ Alike s u v w := by
  cases h with
  | payload p a b hab => cases hP; exact ⟨b, .payload p b, hab⟩
  | noResponse a b hab => cases hP; exact ⟨b, .noResponse b, hab⟩
  | parseError a b hab => cases hP; exact ⟨b, .parseError b, hab⟩
  | abandoned => cases hP
  | hung => cases hP

end Sys2Proof.Machine

namespace Sys2Proof.Proofs

open Sys2Proof.Machine

/-- Settles O50: the two calls compare the same ACK, parse the same response and close alike. -/
theorem callSeesNothingOfEarlierCalls : Obligations.CallSeesNothingOfEarlierCalls := by
  intro c a tmo s u t ha hreset hstrict hdraws hcount hx
  obtain ⟨r, s', v, e, hack, hP, rfl⟩ := (transact_returns ha hreset hx).endsIn
  obtain ⟨u', hack', hbehind⟩ := (alike_awaitAck hstrict hdraws hcount c a tmo).ackCheck_got hack
  obtain ⟨w, hQ, hparsed⟩ := hbehind.awaitResponse.parseFrame.endsIn hP
  have hend := hparsed.closeCall e
  exact ⟨_, exec_transact_endsIn ha (noReset_nextDraw (noReset_congr hdraws hcount hreset)) hack' hQ,
    hend.result, hend.rx, hend.anom, hend.since⟩

end Sys2Proof.Proofs

/-! SUPPORT. The draws an operation takes: how many, that no reset input was asserted at them or at which one it was, and
what they leave of the device's wait state. -/

namespace Sys2Proof.Machine

/-! ### Accesses without a reset, and the access that a reset meets -/

/-- The device's wait state after the next `n` accesses, while no ACK consumes it (45_host_boundary.md R123). -/
def State.waitAfter (s : State) : Nat → Bool
  | 0 => s.deviceWait
  | n + 1 => (s.drawAt n).waits

/-- `t` has been reached from `s` by `n` accesses, at none of which the reset input was asserted. -/
structure Drew (s t : State) (n : Nat) : Prop where
  drawCount : t.drawCount = s.drawCount + n
  drawAt : ∀ k, t.drawAt k = s.drawAt (n + k)
  noReset : s.NoReset n
  deviceWait : t.deviceWait = s.waitAfter n

/-- `t` has been reached from `s` by `n` accesses without reset, and one at which the reset input was asserted. -/
structure ResetAt (s t : State) (n : Nat) : Prop where
  drawCount : t.drawCount = s.drawCount + (n + 1)
  noReset : s.NoReset n
  reset : (s.drawAt n).reset = true

/-- No access. -/
theorem drew_zero {s t : State} (hdraws : t.draws = s.draws) (hcount : t.drawCount = s.drawCount)
    (hwait : t.deviceWait = s.deviceWait) : Drew s t 0 where
  drawCount := hcount
  drawAt k := by rw [drawAt_congr hdraws hcount, Nat.zero_add]
  noReset _ hk := absurd hk (Nat.not_lt_zero _)
  deviceWait := hwait

/-- One access. -/
theorem drew_one {s t : State} (hdraws : t.draws = s.draws.tail) (hcount : t.drawCount = s.drawCount + 1)
    (hreset : s.nextDraw.reset = false) (hwait : t.deviceWait = s.nextDraw.waits) : Drew s t 1 where
  drawCount := hcount
  drawAt k := by rw [drawAt_after s t hdraws hcount, Nat.add_comm]
  noReset k hk := by
    obtain rfl : k = 0 := by omega
    rwa [← nextDraw_eq_drawAt]
  deviceWait := by rw [hwait, nextDraw_eq_drawAt]; rfl

/-- What is behind later accesses, as it is seen from the start. -/
theorem Drew.waitAfter {s t : State} {n : Nat} (h : Drew s t n) (k : Nat) : t.waitAfter k = s.waitAfter (n + k) := by
  cases k with
  | zero => exact h.deviceWait
  | succ k => exact congrArg ChanDraw.waits (h.drawAt k)

/-- No reset in the first accesses and none in the later ones. -/
theorem Drew.noReset_add {s t : State} {n k : Nat} (h : Drew s t n) (hk : t.NoReset k) : s.NoReset (n + k) := by
  intro j hj
  by_cases hn : j < n
  · exact h.noReset j hn
  · have hlater := hk (j - n) (by omega)
    rwa [h.drawAt, Nat.add_sub_cancel' (by omega)] at hlater

theorem Drew.trans {s t u : State} {n k : Nat} (h : Drew s t n) (l : Drew t u k) : Drew s u (n + k) where
  drawCount := by rw [l.drawCount, h.drawCount, Nat.add_assoc]
  drawAt j := by rw [l.drawAt, h.drawAt, Nat.add_assoc]
  noReset := h.noReset_add l.noReset
  deviceWait := by rw [l.deviceWait, h.waitAfter]

/-- Updates that make no access. -/
theorem Drew.same {s t u : State} {n : Nat} (h : Drew s t n) (hdraws : u.draws = t.draws)
    (hcount : u.drawCount = t.drawCount) (hwait : u.deviceWait = t.deviceWait) : Drew s u n :=
  h.trans (drew_zero hdraws hcount hwait)

theorem Drew.check {s t : State} {n : Nat} (h : Drew s t n) (b : Bool) (f : AnomFlag) : Drew s (t.check b f) n :=
  h.same (by simp) (by simp) (by simp)

theorem Drew.setHead {s t : State} {n : Nat} (h : Drew s t n) (b : Bytes) : Drew s (t.setHead b) n := h.same rfl rfl rfl

theorem Drew.setPay {s t : State} {n : Nat} (h : Drew s t n) (b : Bytes) : Drew s (t.setPay b) n := h.same rfl rfl rfl

theorem Drew.takeBody {s t : State} {n : Nat} (h : Drew s t n) (len m : Byte) (body : Bytes) :
    Drew s (t.takeBody len m body) n :=
  h.same (by simp [State.takeBody]) (by simp [State.takeBody]) (by simp [State.takeBody])

theorem ResetAt.after {s t u : State} {n k : Nat} (h : Drew s t n) (hu : ResetAt t u k) : ResetAt s u (n + k) where
  drawCount := by rw [hu.drawCount, h.drawCount, Nat.add_assoc, Nat.add_assoc]
  noReset := h.noReset_add hu.noReset
  reset := h.drawAt k ▸ hu.reset

/-- A read that returns. -/
theorem drew_rxRead_got {s t : State} {n : Nat} {r : Bytes} (h : s.rxRead n = .got r t) : Drew s t 1 := by
  obtain ⟨hreset, -, -, rfl⟩ := rxRead_got s n r t h
  exact drew_one rfl rfl hreset rfl

/-- The access of which the next draw asserts the reset input. -/
theorem resetAt_zero {s t : State} (hreset : s.nextDraw.reset = true) (hcount : t.drawCount = s.drawCount + 1) :
    ResetAt s t 0 where
  drawCount := hcount
  noReset _ hk := absurd hk (Nat.not_lt_zero _)
  reset := nextDraw_eq_drawAt s ▸ hreset

theorem resetAt_rxRead_abandoned {s t : State} {n : Nat} (h : s.rxRead n = .abandoned t) : ResetAt s t 0 := by
  obtain ⟨hreset, rfl⟩ := rxRead_abandoned s n t h
  exact resetAt_zero hreset rfl

/-! ### The draws of a parse -/

/-- A parse from `s` makes at most `m` reads: a result comes of reads without reset, and a reset has met the last read of
a parse that is abandoned. -/
structure Parse.Draws (s : State) (m : Nat) (P : Parse) : Prop where
  returned : ∀ t e, P.EndsIn t e → ∃ n, n ≤ m ∧ Drew s t n
  abandoned : ∀ t, P = .abandoned t → ∃ n, ResetAt s t n

theorem draws_of_endsIn {s t : State} {P : Parse} {e : Ending} {n m : Nat} (h : P.EndsIn t e) (hn : n ≤ m)
    (hd : Drew s t n) : P.Draws s m where
  returned u e' hu := by
    obtain rfl : t = u := h.state.symm.trans hu.state
    exact ⟨n, hn, hd⟩
  abandoned u hu := by
    rw [hu] at h
    cases h

theorem draws_of_abandoned {s t : State} {n m : Nat} (h : ResetAt s t n) : (Parse.abandoned t).Draws s m where
  returned _ _ hu := nomatch hu
  abandoned u hu := by
    cases hu
    exact ⟨n, h⟩

theorem draws_of_hung (s t : State) (m : Nat) : (Parse.hung t).Draws s m where
  returned _ _ hu := nomatch hu
  abandoned _ hu := nomatch hu

/-- The reads of a parse come behind those already made. -/
theorem Parse.Draws.after {s t : State} {n m : Nat} {P : Parse} (hd : Drew s t n) (h : P.Draws t m) :
    P.Draws s (n + m) where
  returned u e hu := by
    obtain ⟨k, hk, hdrew⟩ := h.returned u e hu
    exact ⟨n + k, by omega, hd.trans hdrew⟩
  abandoned u hu := by
    obtain ⟨k, hreset⟩ := h.abandoned u hu
    exact ⟨n + k, hreset.after hd⟩

theorem Parse.Draws.mono {s : State} {m k : Nat} {P : Parse} (h : P.Draws s m) (hk : m ≤ k) : P.Draws s k where
  returned t e ht := by
    obtain ⟨n, hn, hd⟩ := h.returned t e ht
    exact ⟨n, hn.trans hk, hd⟩
  abandoned := h.abandoned

theorem draws_parsePostamble (s : State) : s.parsePostamble.Draws s 1 := by
  unfold State.parsePostamble
  split
  next t h => exact draws_of_endsIn (.parseError t) le_rfl (drew_rxRead_got h)
  next x r t h => exact draws_of_endsIn (.payload _ _) le_rfl ((drew_rxRead_got h).check ..)
  next t h => exact draws_of_abandoned (resetAt_rxRead_abandoned h)
  next t h => exact draws_of_hung s t 1

theorem draws_parseBody (s : State) (len m : Byte) : (s.parseBody len m).Draws s 2 := by
  have hcheck : Drew s (s.check (m == Config.deviceMarker) .marker) 0 := drew_zero (by simp) (by simp) (by simp)
  unfold State.parseBody
  split
  next body t h =>
    have hread : Drew s t 1 := hcheck.trans (drew_rxRead_got h)
    split
    · exact draws_of_endsIn (.parseError t) (by omega) hread
    · exact (draws_parsePostamble _).after (hread.takeBody len m body)
  next t h => exact draws_of_abandoned ((resetAt_rxRead_abandoned h).after hcheck)
  next t h => exact draws_of_hung s t 2

theorem draws_parseHead (s : State) (b0 b1 b2 len c m : Byte) : (s.parseHead b0 b1 b2 len c m).Draws s 2 := by
  have hcheck : Drew s ((s.check ([b0, b1, b2] == Config.preamble) .pre).check (lcsOk len c) .lcs) 0 :=
    drew_zero (by simp) (by simp) (by simp)
  unfold State.parseHead
  split
  · exact ((draws_parsePostamble _).after (hcheck.setPay [])).mono (Nat.le_succ 1)
  · exact (draws_parseBody _ len m).after hcheck

theorem draws_parseFrame (s : State) : s.parseFrame.Draws s 3 := by
  unfold State.parseFrame
  split
  next t h => exact draws_of_endsIn (.noResponse _) (by omega) ((drew_rxRead_got h).setHead _)
  next b0 b1 b2 len c m t h =>
    exact (draws_parseHead _ b0 b1 b2 len c m).after ((drew_rxRead_got h).setHead _)
  next r t _ _ h => exact draws_of_endsIn (.parseError _) (by omega) ((drew_rxRead_got h).setHead _)
  next t h => exact draws_of_abandoned (resetAt_rxRead_abandoned h)
  next t h => exact draws_of_hung s t 3

/-! ### The draws of a call -/

/-- The flush is an access. -/
theorem drew_awaitAck {s : State} (hreset : s.nextDraw.reset = false) (c : Byte) (a : Bytes) (tmo : Duration) :
    Drew s (s.awaitAck c a tmo) 1 := drew_one rfl rfl hreset rfl

/-- Before its head read a call has made two accesses. -/
theorem drew_awaitResponse {s u : State} {c : Byte} {a r : Bytes} {tmo : Duration} (hreset : s.nextDraw.reset = false)
    (hack : (s.awaitAck c a tmo).ackCheck = .got r u) : Drew s u.awaitResponse 2 := by
  obtain ⟨w, hw, rfl⟩ := ackCheck_got _ r u hack
  exact (((drew_awaitAck hreset c a tmo).trans (drew_rxRead_got hw)).check ..).same rfl rfl rfl

/-- Behind its response a call has made three accesses to five. -/
theorem drew_response {s u v : State} {c : Byte} {a r : Bytes} {tmo : Duration} {e : Ending}
    (hreset : s.nextDraw.reset = false) (hack : (s.awaitAck c a tmo).ackCheck = .got r u)
    (hP : u.awaitResponse.parseFrame.EndsIn v e) : ∃ n, n ≤ 3 ∧ Drew s v (2 + n) := by
  obtain ⟨n, hn, hd⟩ := (draws_parseFrame u.awaitResponse).returned v e hP
  exact ⟨n, hn, (drew_awaitResponse hreset hack).trans hd⟩

/-! ### The wait state behind a call -/

/-- The endings of a parse (43_frame_parse.md, opening). -/
theorem Parse.EndsIn.ending_cases {P : Parse} {t : State} {e : Ending} (h : P.EndsIn t e) :
    (∃ p, e = .ok p) ∨ e = .noResponse ∨ e = .fail .parseError := by
  cases h with
  | payload p => exact .inl ⟨p, rfl⟩
  | noResponse => exact .inr (.inl rfl)
  | parseError => exact .inr (.inr rfl)

/-- A payload is delivered or withheld; either way its call ends neither with `NoResponse` nor with `PARSE_ERROR`. -/
theorem strictEnding_not_aborted (strict : Bool) (anom : BitVec 6) (p : Bytes) :
    ¬ (strictEnding strict anom p = .noResponse ∨ strictEnding strict anom p = .fail .parseError) := by
  rcases strictEnding_cases strict anom p with hok | ⟨-, -, hfail⟩
  · simp [hok]
  · simp [hfail]

end Sys2Proof.Machine

namespace Sys2Proof.Proofs

open Sys2Proof.Machine

/-- Settles O37: only a parsed payload is acknowledged, and the last draw before has left the device waiting. -/
theorem abortedCallLeavesTheDeviceWaiting : Obligations.AbortedCallLeavesTheDeviceWaiting := by
  intro c a tmo s t ha hreset hwaits hx
  obtain ⟨r, u, v, e, hack, hP, rfl⟩ := (transact_returns ha hreset hx).endsIn
  obtain ⟨n, hn, hdrew⟩ := drew_response (noReset_nextDraw hreset) hack hP
  have hwait : v.deviceWait = true := by
    rw [hdrew.deviceWait, Nat.add_comm]
    exact hwaits (n + 1) (by omega)
  rw [closeCall_result]
  obtain ⟨p, rfl⟩ | rfl | rfl := hP.ending_cases
  · rw [closeCall_deviceWait]
    exact iff_of_false Bool.false_ne_true (strictEnding_not_aborted v.strict v.anom p)
  · exact iff_of_true hwait (.inl rfl)
  · exact iff_of_true hwait (.inr rfl)

end Sys2Proof.Proofs

/-! SUPPORT. Reset (70_reset_and_hazards.md R157): how a reset input ends the operation that it meets, and at which accesses
of a parse and of a call it can meet one. -/

namespace Sys2Proof.Machine

/-! ### The listed values -/

theorem reset_listed : State.reset.ResetListed := ⟨rfl, rfl, rfl, rfl, rfl, rfl, rfl, rfl, rfl, rfl, rfl⟩

theorem resetBlock_listed (s : State) : s.resetBlock.ResetListed :=
  ⟨rfl, rfl, rfl, rfl, rfl, rfl, rfl, rfl, rfl, rfl, rfl⟩

theorem readResult_resetBlock (s : State) : s.resetBlock.readResult = none := rfl

theorem readResult_of_valid {s : State} (h : s.resultValid = true) : s.readResult = some s.result := by
  rw [State.readResult, if_pos h]

/-! ### How the reset input ends an operation -/

theorem ResetAt.onTheWay {s t : State} {n : Nat} (h : ResetAt s t n) : s.ResetOnTheWay t :=
  ⟨n, by rw [h.drawCount]; omega, h.reset⟩

theorem Drew.not_onTheWay {s t : State} {n : Nat} (h : Drew s t n) : ¬ s.ResetOnTheWay t := by
  rintro ⟨k, hk, hreset⟩
  have hnone := h.noReset k (by have := h.drawCount; omega)
  rw [hreset] at hnone
  cases hnone

/-- An operation of `s` has ended: with a result, at none of its accesses a reset; or abandoned by the reset at its last
access, these bytes having been on their way to the device. -/
inductive EndsOrAbandoned (s : State) (onTheWay : Bytes) : State → Prop where
  | ended (v t : State) (n : Nat) (hd : Drew s v n) (hcount : t.drawCount = v.drawCount)
      (hvalid : t.resultValid = true) : EndsOrAbandoned s onTheWay t
  | abandoned (v : State) (n : Nat) (hreset : ResetAt s v n) (hchannel : v.txSent ++ v.txUnsent = onTheWay)
      (hinputs : v.inputs = s.inputs) : EndsOrAbandoned s onTheWay v.resetBlock

section
variable {s t : State} {onTheWay : Bytes} (h : EndsOrAbandoned s onTheWay t)
include h

/-- There is no result exactly if a reset was asserted on the way. -/
theorem EndsOrAbandoned.readResult_eq_none : t.readResult = none ↔ s.ResetOnTheWay t := by
  cases h with
  | ended v _ n hd hcount hvalid =>
    have hway : ¬ s.ResetOnTheWay t := by
      rw [State.ResetOnTheWay, hcount]
      exact hd.not_onTheWay
    exact iff_of_false (by simp [readResult_of_valid hvalid]) hway
  | abandoned v n hreset => exact iff_of_true (readResult_resetBlock v) hreset.onTheWay

/-- Without a result the block is at the listed values, and the channel keeps its bytes. -/
theorem EndsOrAbandoned.listed (hnone : t.readResult = none) :
    t.ResetListed ∧ t.txSent ++ t.txUnsent = onTheWay ∧ t.inputs = s.inputs := by
  cases h with
  | ended v _ n hd hcount hvalid =>
    rw [readResult_of_valid hvalid] at hnone
    cases hnone
  | abandoned v n hreset hchannel hinputs => exact ⟨resetBlock_listed v, hchannel, hinputs⟩

end

/-- The bytes delivered and the bytes on their way to the device, together, are those of `s`. -/
def SameChannel (s t : State) : Prop := t.txSent ++ t.txUnsent = s.txSent ++ s.txUnsent

/-- Reading only lets the channel deliver what waits (20_memory.md R47). -/
theorem sameChannel_keptByReading : KeptByReading SameChannel where
  refl _ := rfl
  trans h k := k.trans h
  check s b f := by simp [SameChannel]
  setPay _ _ := rfl
  runSum _ _ _ := rfl
  environment := environment_txSent_append_txUnsent
  takeRx s _ _ := environment_txSent_append_txUnsent s
  dropRx s _ := environment_txSent_append_txUnsent s

theorem sameChannel_parse {s : State} {P : Parse} (h : s.parseFrame = P) : SameChannel s P.state :=
  sameChannel_keptByReading.parseFrame (fun _ _ => rfl) h

theorem closeParse_drawCount (v : State) (e : Ending) : (v.closeParse e).drawCount = v.drawCount := by
  cases e with
  | ok p => exact deliver_drawCount v p
  | noResponse | fail => rfl

theorem closeParse_resultValid (v : State) (e : Ending) : (v.closeParse e).resultValid = true := by
  cases e with
  | ok p => exact deliver_resultValid v p
  | noResponse | fail => rfl

/-- The ways a PARSE_FRAME ends (43_frame_parse.md R101, 70_reset_and_hazards.md R157). -/
theorem ParseEnds.endsOrAbandoned {s t : State} (h : ParseEnds s t) :
    EndsOrAbandoned s (s.txSent ++ s.txUnsent) t := by
  have hstart : Drew s s.clearAnom 0 := drew_zero rfl rfl rfl
  have hdraws := (draws_parseFrame s.clearAnom).after hstart
  have hended (v : State) (e : Ending) (hP : s.clearAnom.parseFrame.EndsIn v e) :
      EndsOrAbandoned s (s.txSent ++ s.txUnsent) (v.closeParse e) := by
    obtain ⟨n, -, hd⟩ := hdraws.returned v e hP
    exact .ended v _ n hd (closeParse_drawCount v e) (closeParse_resultValid v e)
  cases h with
  | delivered p u hp => exact hended u (.ok p) (hp ▸ .payload p u)
  | silent u hp => exact hended u .noResponse (hp ▸ .noResponse u)
  | broken u hp => exact hended u (.fail .parseError) (hp ▸ .parseError u)
  | abandoned u hp =>
    obtain ⟨n, hreset⟩ := hdraws.abandoned u hp
    exact .abandoned u n hreset (sameChannel_parse hp) (reads_of_parse hp).inputs

/-- The bytes on their way to the device as the ACK read of a call starts: the flush has let some through, and the frame
is written (44_link_transaction.md R104). -/
theorem awaitAck_channel (s : State) (c : Byte) (a : Bytes) (tmo : Duration) :
    (s.awaitAck c a tmo).txSent ++ (s.awaitAck c a tmo).txUnsent =
      s.txSent ++ s.txUnsent.take (s.drawAt 0).sent ++ buildFrame c a := by
  rw [← nextDraw_eq_drawAt]
  rfl

/-- The ways a call ends (44_link_transaction.md R104, 70_reset_and_hazards.md R157); a reset at the flush comes before
the frame is written. -/
theorem CallEnds.endsOrAbandoned {s t : State} {c : Byte} {a : Bytes} {tmo : Duration} (h : CallEnds s c a tmo t) :
    EndsOrAbandoned s (s.txSent ++ s.txUnsent.take (s.drawAt 0).sent ++
      if (s.drawAt 0).reset then [] else buildFrame c a) t := by
  have hsent (hr : s.nextDraw.reset = false) {v : State} (hv : SameChannel (s.awaitAck c a tmo) v) :
      v.txSent ++ v.txUnsent = s.txSent ++ s.txUnsent.take (s.drawAt 0).sent ++
        if (s.drawAt 0).reset then [] else buildFrame c a := by
    rw [hv, awaitAck_channel, ← nextDraw_eq_drawAt, hr, if_neg Bool.false_ne_true]
  have hended {u : State} {r : Bytes} (v : State) (e : Ending) (hr : s.nextDraw.reset = false)
      (hack : (s.awaitAck c a tmo).ackCheck = .got r u) (hP : u.awaitResponse.parseFrame.EndsIn v e) :
      EndsOrAbandoned s (s.txSent ++ s.txUnsent.take (s.drawAt 0).sent ++
        if (s.drawAt 0).reset then [] else buildFrame c a) (v.closeCall e) := by
    obtain ⟨n, -, hd⟩ := drew_response hr hack hP
    exact .ended v _ (2 + n) hd (closeCall_drawCount v e) (closeCall_resultValid v e)
  cases h with
  | resetAtFlush hr =>
    have hreset : ResetAt s (s.openCall tmo) 0 := resetAt_zero hr rfl
    refine .abandoned _ 0 hreset ?_ rfl
    rw [if_pos hreset.reset, ← nextDraw_eq_drawAt]
    rfl
  | resetAtAck u hr hack =>
    have hread := ackCheck_abandoned hack
    exact .abandoned u 1 ((resetAt_rxRead_abandoned hread).after (drew_awaitAck hr c a tmo))
      (hsent hr (sameChannel_keptByReading.rxRead hread)) (reads_rxRead_abandoned _ 6 u hread).inputs
  | delivered r u p v hr hack hp => exact hended v (.ok p) hr hack (hp ▸ .payload p v)
  | silent r u v hr hack hp => exact hended v .noResponse hr hack (hp ▸ .noResponse v)
  | broken r u v hr hack hp => exact hended v (.fail .parseError) hr hack (hp ▸ .parseError v)
  | abandoned r u v hr hack hp =>
    obtain ⟨n, hreset⟩ := (draws_parseFrame u.awaitResponse).abandoned v hp
    have hbehind : SameChannel u u.awaitResponse := rfl
    have hchannel := sameChannel_keptByReading.trans (sameChannel_keptByReading.ackCheck hack)
      (sameChannel_keptByReading.trans hbehind (sameChannel_parse hp))
    exact .abandoned v (2 + n) (hreset.after (drew_awaitResponse hr hack)) (hsent hr hchannel)
      (sameSettings_response hack hp).inputs

/-! ### Where a reset meets a parse -/

/-- A read that a reset meets is abandoned (70_reset_and_hazards.md R157). -/
theorem rxRead_resets {s : State} (h : (s.drawAt 0).reset = true) (n : Nat) :
    s.rxRead n = .abandoned (s.dropRx (min n s.nextDraw.count)) := by
  rw [← nextDraw_eq_drawAt] at h
  rw [State.rxRead, if_pos h]

theorem parsePostamble_resets {s : State} (h : (s.drawAt 0).reset = true) : ∃ t, s.parsePostamble = .abandoned t := by
  rw [State.parsePostamble, rxRead_resets h]
  exact ⟨_, rfl⟩

theorem parseBody_resets {s : State} (h : (s.drawAt 0).reset = true) (len m : Byte) :
    ∃ t, s.parseBody len m = .abandoned t := by
  have hcheck : ((s.check (m == Config.deviceMarker) .marker).drawAt 0).reset = true := by
    rwa [drawAt_congr (check_draws ..) (check_drawCount ..)]
  rw [State.parseBody, rxRead_resets hcheck]
  exact ⟨_, rfl⟩

theorem parseFrame_resets {s : State} (h : (s.drawAt 0).reset = true) : ∃ t, s.parseFrame = .abandoned t :=
  ⟨_, parseFrame_abandoned (rxRead_resets h 6)⟩

/-- Six bytes are a head, and `LEN` is the fourth of them (30_encoding.md R55). -/
theorem exists_head {q : Bytes} (h : 6 ≤ q.length) :
    ∃ b0 b1 b2 len c m, q.take 6 = [b0, b1, b2, len, c, m] ∧ q.getD 3 0 = len := by
  match q, h with
  | b0 :: b1 :: b2 :: len :: c :: m :: _, _ => exact ⟨b0, b1, b2, len, c, m, rfl, rfl⟩

/-- A head read that is not reset, six bytes being there. -/
theorem rxRead_wholeHead {s : State} (hreset : s.nextDraw.reset = false) (h : 6 ≤ (s.queueAfter 1).length) :
    ∃ b0 b1 b2 len c m, s.rxRead 6 = .got [b0, b1, b2, len, c, m] (s.takeRx 6 6) ∧ (s.queueAfter 1).getD 3 0 = len := by
  rw [← queued_eq_queueAfter] at h ⊢
  obtain ⟨b0, b1, b2, len, c, m, htake, hlen⟩ := exists_head h
  exact ⟨b0, b1, b2, len, c, m, htake ▸ rxRead_full s 6 hreset h, hlen⟩

theorem drew_afterHead {s : State} {b0 b1 b2 len c m : Byte}
    (hread : s.rxRead 6 = .got [b0, b1, b2, len, c, m] (s.takeRx 6 6)) : Drew s (s.afterHead b0 b1 b2 len c m) 1 :=
  (((drew_rxRead_got hread).setHead _).check ..).check ..

/-- Behind a whole head its tests are made, and `LEN` says which read follows (43_frame_parse.md R95, R96). -/
theorem parseFrame_got_wholeHead {s : State} {b0 b1 b2 len c m : Byte}
    (hread : s.rxRead 6 = .got [b0, b1, b2, len, c, m] (s.takeRx 6 6)) : s.parseFrame =
      if len = 0 then ((s.afterHead b0 b1 b2 len c m).setPay []).parsePostamble
      else (s.afterHead b0 b1 b2 len c m).parseBody len m := parseFrame_got_head hread

/-- A reset at the read behind a whole head: the body's, or the postamble's for `LEN` 0. -/
theorem parseFrame_resets_behind_head {s : State} (hlen : 6 ≤ (s.queueAfter 1).length)
    (h : (s.drawAt 1).reset = true) : ∃ t, s.parseFrame = .abandoned t := by
  by_cases h0 : (s.drawAt 0).reset = true
  · exact parseFrame_resets h0
  · have hreset : s.nextDraw.reset = false := by rwa [nextDraw_eq_drawAt, ← Bool.not_eq_true]
    obtain ⟨b0, b1, b2, len, c, m, hread, -⟩ := rxRead_wholeHead hreset hlen
    have hnext : ((s.afterHead b0 b1 b2 len c m).drawAt 0).reset = true := by rwa [(drew_afterHead hread).drawAt]
    rw [parseFrame_got_wholeHead hread]
    split
    · exact parsePostamble_resets (s := State.setPay _ []) hnext
    · exact parseBody_resets hnext len m

/-- The queue of the read behind a whole head, all six bytes of which were taken from it. -/
theorem afterHead_queued {s : State} (b0 b1 b2 len c m : Byte) (hlen : 6 ≤ (s.queueAfter 1).length) :
    (s.afterHead b0 b1 b2 len c m).queued = (s.queueAfter 2).drop 6 := by
  have hrx : (s.afterHead b0 b1 b2 len c m).rx = (s.queueAfter 1).drop 6 := by
    simp [State.afterHead, queued_eq_queueAfter]
  have hdraw : (s.afterHead b0 b1 b2 len c m).drawAt 0 = s.drawAt 1 :=
    drawAt_after s _ (by simp [State.afterHead]) (by simp [State.afterHead]) 0
  rw [queued_eq_drawAt, hrx, hdraw, queueAfter_succ s 1, List.drop_append_of_le_length hlen]

/-- A reset at the postamble read behind a whole body. -/
theorem parseFrame_resets_behind_body {s : State} (hhead : 6 ≤ (s.queueAfter 1).length)
    (hlen0 : (s.queueAfter 1).getD 3 0 ≠ 0)
    (hbody : 6 + ((s.queueAfter 1).getD 3 0).toNat ≤ (s.queueAfter 2).length)
    (h : (s.drawAt 2).reset = true) : ∃ t, s.parseFrame = .abandoned t := by
  by_cases h1 : (s.drawAt 1).reset = true
  · exact parseFrame_resets_behind_head hhead h1
  by_cases h0 : (s.drawAt 0).reset = true
  · exact parseFrame_resets h0
  have hreset : s.nextDraw.reset = false := by rwa [nextDraw_eq_drawAt, ← Bool.not_eq_true]
  obtain ⟨b0, b1, b2, len, c, m, hread, hlen⟩ := rxRead_wholeHead hreset hhead
  rw [hlen] at hlen0 hbody
  have hdrew := (drew_afterHead hread).check (m == Config.deviceMarker) .marker
  have hnext : ((s.afterHead b0 b1 b2 len c m).check (m == Config.deviceMarker) .marker).nextDraw.reset = false := by
    rwa [nextDraw_eq_drawAt, hdrew.drawAt, ← Bool.not_eq_true]
  have hqueued : ((s.afterHead b0 b1 b2 len c m).check (m == Config.deviceMarker) .marker).queued =
      (s.queueAfter 2).drop 6 := by
    rw [← afterHead_queued b0 b1 b2 len c m hhead, queued_eq_drawAt, queued_eq_drawAt, check_rx,
      drawAt_congr (check_draws ..) (check_drawCount ..)]
  have hwhole : len.toNat ≤ ((s.queueAfter 2).drop 6).length := by
    rw [List.length_drop]
    omega
  have hfull := rxRead_full _ len.toNat hnext (hqueued ▸ hwhole)
  rw [hqueued] at hfull
  have hpost := (hdrew.trans (drew_rxRead_got hfull)).takeBody len m (((s.queueAfter 2).drop 6).take len.toNat)
  rw [parseFrame_got_nonzero hlen0 hread, parseBody_got_whole hfull (List.length_take_of_le hwhole)]
  exact parsePostamble_resets (hpost.drawAt 0 ▸ h)

theorem exec_parseFrame_abandoned {s u : State} (h : s.clearAnom.parseFrame = .abandoned u) :
    exec .parseFrame s = .next u.resetBlock := by
  have hrun : s.runParse = .done u.resetBlock := by rw [runParse_eq, h]; rfl
  exact (congrArg _ hrun).trans (finish_done ..)

/-! ### Where a reset meets a call -/

/-- The first draw behind the ACK read of a call is draw 2, those of the flush and of that read being taken. -/
theorem awaitResponse_drawAt {s u : State} {c : Byte} {a r : Bytes} {tmo : Duration}
    (hack : (s.awaitAck c a tmo).ackCheck = .got r u) (k : Nat) : u.awaitResponse.drawAt k = s.drawAt (2 + k) := by
  have hu : u.drawAt k = (s.awaitAck c a tmo).drawAt (1 + k) := (examined_ackCheck hack).drawAt k
  have hk : 1 + k + 1 = 2 + k := by omega
  rw [awaitAck_drawAt, hk] at hu
  exact hu

section
variable {s : State} {c : Byte} {a : Bytes} {tmo : Duration} (ha : a.length + 1 ≤ 254)
include ha

/-- A course that has come to its end ends the call under every timeout. -/
theorem exec_transact_of_done {t : State} (hrun : s.runTransact c a tmo = .done t) :
    exec (.transact c a tmo) s = .next t := by
  rw [exec_transact_fits tmo ha, hrun, finish_done]

theorem transact_ends {t : State} (hx : exec (.transact c a tmo) s = .next t) : CallEnds s c a tmo t := by
  rw [exec_transact_fits tmo ha] at hx
  exact runTransact_done (finish_next_done (fun _ => runTransact_hung) hx)

theorem transact_resets_at_flush (h : (s.drawAt 0).reset = true) :
    ∃ t, exec (.transact c a tmo) s = .next t ∧ t.readResult = none :=
  ⟨_, exec_transact_of_done ha (runTransact_of_resetAtFlush (nextDraw_eq_drawAt s ▸ h)), rfl⟩

theorem transact_resets_at_ack (h : (s.drawAt 1).reset = true) :
    ∃ t, exec (.transact c a tmo) s = .next t ∧ t.readResult = none := by
  by_cases h0 : (s.drawAt 0).reset = true
  · exact transact_resets_at_flush ha h0
  · have hreset : s.nextDraw.reset = false := by rwa [nextDraw_eq_drawAt, ← Bool.not_eq_true]
    have hnext : ((s.awaitAck c a tmo).drawAt 0).reset = true := by rwa [awaitAck_drawAt]
    have hack := ackCheck_of_abandoned (rxRead_resets hnext 6)
    exact ⟨_, exec_transact_of_done ha (runTransact_of_ack_abandoned hreset hack), rfl⟩

/-- A reset in the parse of the response, the ACK read having ended because it has a bound or because six bytes were
there. -/
theorem transact_resets_in_response (hends : tmo = .unbounded → 6 ≤ (s.arrivedBy 1).length)
    (h : ∀ r u, (s.awaitAck c a tmo).ackCheck = .got r u → (6 ≤ (s.arrivedBy 1).length → r.length = 6) →
      ∃ v, u.awaitResponse.parseFrame = .abandoned v) :
    ∃ t, exec (.transact c a tmo) s = .next t ∧ t.readResult = none := by
  by_cases h1 : (s.drawAt 1).reset = true
  · exact transact_resets_at_ack ha h1
  by_cases h0 : (s.drawAt 0).reset = true
  · exact transact_resets_at_flush ha h0
  have hreset : s.nextDraw.reset = false := by rwa [nextDraw_eq_drawAt, ← Bool.not_eq_true]
  have hnext : (s.awaitAck c a tmo).nextDraw.reset = false := by
    rwa [nextDraw_eq_drawAt, awaitAck_drawAt, ← Bool.not_eq_true]
  have hread := rxRead_returns (s.awaitAck c a tmo) 6 hnext (fun ht => awaitAck_queued s c a tmo ▸ hends ht)
  have hlen := length_take_readLength (s.awaitAck c a tmo) 6
  have hack := ackCheck_of_rxRead hread
  have hfull : 6 ≤ (s.arrivedBy 1).length →
      ((s.awaitAck c a tmo).queued.take ((s.awaitAck c a tmo).readLength 6)).length = 6 := fun h6 =>
    hlen.trans (readCount_full _ _ _ (awaitAck_queued s c a tmo ▸ h6))
  obtain ⟨v, hp⟩ := h _ _ hack hfull
  exact ⟨_, exec_transact_of_done ha ((runTransact_of_ack_got hreset hack).trans (congrArg Parse.endCall hp)), rfl⟩

/-- A reset at the head read, which a bounded ACK read reaches. -/
theorem transact_resets_at_head (hbound : Bounded tmo) (h : (s.drawAt 2).reset = true) :
    ∃ t, exec (.transact c a tmo) s = .next t ∧ t.readResult = none := by
  obtain ⟨n, rfl⟩ := hbound
  refine transact_resets_in_response ha (fun ht => nomatch ht) fun r u hack _ => ?_
  exact parseFrame_resets (awaitResponse_drawAt hack 0 ▸ h)

/-- A reset at the read behind a whole head. -/
theorem transact_resets_behind_head (hack6 : 6 ≤ (s.arrivedBy 1).length) (hhead : 12 ≤ (s.arrivedBy 2).length)
    (h : (s.drawAt 3).reset = true) : ∃ t, exec (.transact c a tmo) s = .next t ∧ t.readResult = none := by
  refine transact_resets_in_response ha (fun _ => hack6) fun r u hack hlen => ?_
  have hqueue := awaitResponse_queueAfter hack 1
  refine parseFrame_resets_behind_head ?_ (awaitResponse_drawAt hack 1 ▸ h)
  rw [← hqueue, List.length_append, hlen hack6] at hhead
  omega

/-- A reset at the postamble read behind a whole body. -/
theorem transact_resets_behind_body (hack6 : 6 ≤ (s.arrivedBy 1).length) (hhead : 12 ≤ (s.arrivedBy 2).length)
    (hlen0 : (s.arrivedBy 2).getD 9 0 ≠ 0)
    (hbody : 12 + ((s.arrivedBy 2).getD 9 0).toNat ≤ (s.arrivedBy 3).length) (h : (s.drawAt 4).reset = true) :
    ∃ t, exec (.transact c a tmo) s = .next t ∧ t.readResult = none := by
  refine transact_resets_in_response ha (fun _ => hack6) fun r u hack hlen => ?_
  have hr := hlen hack6
  have hqueue1 : r ++ u.awaitResponse.queueAfter 1 = s.arrivedBy 2 := awaitResponse_queueAfter hack 1
  have hqueue2 : r ++ u.awaitResponse.queueAfter 2 = s.arrivedBy 3 := awaitResponse_queueAfter hack 2
  have hbyte : (s.arrivedBy 2).getD 9 0 = (u.awaitResponse.queueAfter 1).getD 3 0 := by
    rw [← hqueue1, List.getD_append_right _ _ _ _ (by omega), hr]
  rw [hbyte] at hlen0 hbody
  rw [← hqueue1, List.length_append, hr] at hhead
  rw [← hqueue2, List.length_append, hr] at hbody
  exact parseFrame_resets_behind_body (by omega) hlen0 (by omega) (awaitResponse_drawAt hack 2 ▸ h)

end

/-- The reset input between two operations (70_reset_and_hazards.md R156). -/
theorem step_reset {s : State} {rest : List Input} (hin : s.inputs = .reset :: rest) :
    step s = .next (State.resetBlock { s with inputs := rest }) := by
  rw [step_input hin, State.handle]

end Sys2Proof.Machine

namespace Sys2Proof.Proofs

open Sys2Proof.Machine

/-- Settles O51: a reset at a read that is reached abandons the parse, and what abandons it is a reset at its last read. -/
theorem resetAbandonsAParse : Obligations.ResetAbandonsAParse := by
  intro s
  constructor
  · intro h
    have hparse : ∃ u, s.clearAnom.parseFrame = .abandoned u := by
      obtain hhead | ⟨h6, hnext⟩ | ⟨h6, hlen, hbody, hpost⟩ := h
      · exact parseFrame_resets (s := s.clearAnom) hhead
      · exact parseFrame_resets_behind_head (s := s.clearAnom) h6 hnext
      · exact parseFrame_resets_behind_body (s := s.clearAnom) h6 hlen hbody hpost
    obtain ⟨u, hu⟩ := hparse
    exact ⟨_, exec_parseFrame_abandoned hu, readResult_resetBlock u⟩
  · intro t hx
    have hends := (runParse_done (finish_next_done (fun _ => runParse_hung) hx)).endsOrAbandoned
    exact ⟨hends.readResult_eq_none, hends.listed⟩

/-- Settles O39: the values of reset by definition; a reset at an access that a call reaches abandons it, and what abandons
it is a reset at its last access. -/
theorem resetTakesTheListedValues : Obligations.ResetTakesTheListedValues := by
  refine ⟨reset_listed, ?input, ?call⟩
  case input => exact fun s rest hin => ⟨_, step_reset hin, resetBlock_listed _, rfl, rfl, rfl, rfl⟩
  case call =>
    intro c a tmo s ha
    constructor
    · rintro (hflush | hack | ⟨hbound, hhead⟩ | ⟨h6, h12, hnext⟩ | ⟨h6, h12, hlen, hbody, hpost⟩)
      · exact transact_resets_at_flush ha hflush
      · exact transact_resets_at_ack ha hack
      · exact transact_resets_at_head ha hbound hhead
      · exact transact_resets_behind_head ha h6 h12 hnext
      · exact transact_resets_behind_body ha h6 h12 hlen hbody hpost
    · intro t hx
      have hends := (transact_ends ha hx).endsOrAbandoned
      refine ⟨hends.readResult_eq_none, fun hnone => ?_⟩
      obtain ⟨hlisted, hchannel, -⟩ := hends.listed hnone
      exact ⟨hlisted, hchannel⟩

end Sys2Proof.Proofs
